-- ==== Sys2Proof/Word.lean ====
section
/-! DEFINITION. The machine's words: 32-bit registers (spec/00_scope.md R10, XLEN) and bytes (spec/20_memory.md R70). -/

namespace Sys2Proof

/-- A 32-bit register value (R10: XLEN = 32), and a command word (30_encoding R100). -/
abbrev Word := BitVec 32

/-- A byte of buffer IN, OUT or of BMP's byte view (R70). -/
abbrev Byte := BitVec 8

end Sys2Proof
end

