-- ==== Sys2Proof/Syntax.lean ====
section
/-! DEFINITION. The sixteen commands of spec/opcode_table.json (30_encoding.md R104), one constructor per row. -/

namespace Sys2Proof

/-- The four orientation transforms, in the order of their codes 0 to 3 (45_tile_3ds R263). -/
inductive Orient where
  /-- code 0: `(x, y)` -/
  | identity
  /-- code 1: `(y, x)` -/
  | transpose
  /-- code 2: `(y, He - 1 - x)` -/
  | rotateCcw
  /-- code 3: `(x, He - 1 - y)` -/
  | flipVertical
deriving DecidableEq, Repr

/-- A command of PXSWZ. The fields are those of its format (30_encoding R101), unsigned and as they stand (R103). -/
inductive Instr where
  /-- 0x01 CLRERR, format N (47_control R310) -/
  | clrerr
  /-- 0x02 SRESET, format N (47_control R311) -/
  | sreset
  /-- 0x03 STRRST, format R: restart the input and/or the output stream (42_stream_io R156) -/
  | strrst (inp out : Bool)
  /-- 0x10 REQUANT, format Q: FROM and TO (41_requantizer R134) -/
  | requant (src dst : BitVec 6)
  /-- 0x20 RDU, format S: width code and byte order (42_stream_io R152) -/
  | rdu (wc : BitVec 3) (be : Bool)
  /-- 0x21 WRU, format S (42_stream_io R153) -/
  | wru (wc : BitVec 3) (be : Bool)
  /-- 0x22 WRNIB, format N (42_stream_io R155) -/
  | wrnib
  /-- 0x30 SETFMT, format N (43_pixel_codec R186) -/
  | setfmt
  /-- 0x31 SETFMTID, format I: format id (43_pixel_codec R187) -/
  | setfmtid (id : BitVec 4)
  /-- 0x32 DECPIX, format N (43_pixel_codec R195) -/
  | decpix
  /-- 0x33 ENCPIX, format N (43_pixel_codec R196) -/
  | encpix
  /-- 0x40 TADDR, format N (44_tile_engine R243) -/
  | taddr
  /-- 0x41 SET3DS, format O: orientation and padding (45_tile_3ds R265) -/
  | set3ds (o : Orient) (pad : Bool)
  /-- 0x42 T3DS, format N (45_tile_3ds R266) -/
  | t3ds
  /-- 0x50 LOAD, format O (46_container R284) -/
  | load (o : Orient) (pad : Bool)
  /-- 0x51 SAVE, format O (46_container R285) -/
  | save (o : Orient) (pad : Bool)
deriving DecidableEq, Repr

end Sys2Proof
end

