-- ==== Sys2Proof/WellFormed.lean ====
section
/-! DEFINITION. Which terms of `Instr` are commands: the width codes 5, 6 and 7 are reserved (30_encoding.md R102). Every
other field admits every value of its width (R105). -/

namespace Sys2Proof

/-- A width code that selects a width (R102: WC = 0 to 4). -/
def widthCodeOk (wc : BitVec 3) : Bool := decide (wc.toNat < 5)

/-- A well-formed command: its width code, where it has one, is not reserved (R102, R105). -/
def Instr.wf : Instr → Bool
  | .clrerr => true
  | .sreset => true
  | .strrst _ _ => true
  | .requant _ _ => true
  | .rdu wc _ => widthCodeOk wc
  | .wru wc _ => widthCodeOk wc
  | .wrnib => true
  | .setfmt => true
  | .setfmtid _ => true
  | .decpix => true
  | .encpix => true
  | .taddr => true
  | .set3ds _ _ => true
  | .t3ds => true
  | .load _ _ => true
  | .save _ _ => true

end Sys2Proof
end

