-- ==== Sys2Proof/Decode.lean ====
section
/-! DEFINITION. Decoding a command word (30_encoding.md R100 to R105), total and rejecting by name, and the encoder. -/

namespace Sys2Proof

/-- Why a word is no command. Each of them is ILLEGAL when the word is issued (R105). -/
inductive DecodeError where
  /-- the OPCODE field is none of the sixteen of R104 -/
  | unassignedOpcode
  /-- a reserved bit of the opcode's format is 1 (R101) -/
  | reservedBits
  /-- format S with a width code 5, 6 or 7 (R102) -/
  | reservedWidth
deriving DecidableEq, Repr

/-- The orientation code's transform (45_tile_3ds R263). -/
def Orient.ofCode (c : BitVec 2) : Orient :=
  if c = 0#2 then .identity else if c = 1#2 then .transpose else if c = 2#2 then .rotateCcw else .flipVertical

/-- The 2-bit code of an orientation (45_tile_3ds R263). -/
def Orient.code : Orient → BitVec 2
  | .identity => 0#2
  | .transpose => 1#2
  | .rotateCcw => 2#2
  | .flipVertical => 3#2

/-- CMD[7:0] (R100). -/
def opcodeField (w : Word) : BitVec 8 := w.extractLsb' 0 8

/-- The sixteen assigned opcodes (R104). -/
def assignedOpcodes : List (BitVec 8) :=
  [0x01#8, 0x02#8, 0x03#8, 0x10#8, 0x20#8, 0x21#8, 0x22#8, 0x30#8, 0x31#8, 0x32#8, 0x33#8, 0x40#8, 0x41#8, 0x42#8,
   0x50#8, 0x51#8]

/-- `w` selects the row of R104 with this match and mask. -/
def selects (w rowMatch rowMask : Word) : Bool := w &&& rowMask == rowMatch

/-- Format S commands refuse the width codes 5, 6 and 7 (R102, R105). -/
def withWidth (w : Word) (f : BitVec 3 → Bool → Instr) : Except DecodeError Instr :=
  if widthCodeOk (w.extractLsb' 8 3) then .ok (f (w.extractLsb' 8 3) (w.getLsbD 11)) else .error .reservedWidth

/-- The command a word encodes: the row of R104 it selects, with the fields of the row's format (R101). -/
def decode (w : Word) : Except DecodeError Instr :=
  if selects w 0x00000001#32 0xFFFFFFFF#32 then .ok .clrerr
  else if selects w 0x00000002#32 0xFFFFFFFF#32 then .ok .sreset
  else if selects w 0x00000003#32 0xFFFFFCFF#32 then .ok (.strrst (w.getLsbD 8) (w.getLsbD 9))
  else if selects w 0x00000010#32 0xFFF000FF#32 then .ok (.requant (w.extractLsb' 8 6) (w.extractLsb' 14 6))
  else if selects w 0x00000020#32 0xFFFFF0FF#32 then withWidth w .rdu
  else if selects w 0x00000021#32 0xFFFFF0FF#32 then withWidth w .wru
  else if selects w 0x00000022#32 0xFFFFFFFF#32 then .ok .wrnib
  else if selects w 0x00000030#32 0xFFFFFFFF#32 then .ok .setfmt
  else if selects w 0x00000031#32 0xFFFFF0FF#32 then .ok (.setfmtid (w.extractLsb' 8 4))
  else if selects w 0x00000032#32 0xFFFFFFFF#32 then .ok .decpix
  else if selects w 0x00000033#32 0xFFFFFFFF#32 then .ok .encpix
  else if selects w 0x00000040#32 0xFFFFFFFF#32 then .ok .taddr
  else if selects w 0x00000041#32 0xFFFFF8FF#32 then .ok (.set3ds (.ofCode (w.extractLsb' 8 2)) (w.getLsbD 10))
  else if selects w 0x00000042#32 0xFFFFFFFF#32 then .ok .t3ds
  else if selects w 0x00000050#32 0xFFFFF8FF#32 then .ok (.load (.ofCode (w.extractLsb' 8 2)) (w.getLsbD 10))
  else if selects w 0x00000051#32 0xFFFFF8FF#32 then .ok (.save (.ofCode (w.extractLsb' 8 2)) (w.getLsbD 10))
  else if assignedOpcodes.contains (opcodeField w) then .error .reservedBits
  else .error .unassignedOpcode

/-- The opcode of a command (R104). -/
def Instr.opcode : Instr → BitVec 8
  | .clrerr => 0x01#8
  | .sreset => 0x02#8
  | .strrst _ _ => 0x03#8
  | .requant _ _ => 0x10#8
  | .rdu _ _ => 0x20#8
  | .wru _ _ => 0x21#8
  | .wrnib => 0x22#8
  | .setfmt => 0x30#8
  | .setfmtid _ => 0x31#8
  | .decpix => 0x32#8
  | .encpix => 0x33#8
  | .taddr => 0x40#8
  | .set3ds _ _ => 0x41#8
  | .t3ds => 0x42#8
  | .load _ _ => 0x50#8
  | .save _ _ => 0x51#8

/-- A format O word: PAD in bit 10, ORIENT in bits 9:8 (R101). -/
def encodeOriented (o : Orient) (pad : Bool) (opcode : BitVec 8) : Word :=
  0#21 ++ BitVec.ofBool pad ++ o.code ++ opcode

/-- A format S word: BE in bit 11, WC in bits 10:8 (R101). -/
def encodeSized (wc : BitVec 3) (be : Bool) (opcode : BitVec 8) : Word :=
  0#20 ++ BitVec.ofBool be ++ wc ++ opcode

/-- The word of a command, most significant field first, reserved bits 0 (R101, R110). -/
def encode : Instr → Word
  | .clrerr => 0x00000001#32
  | .sreset => 0x00000002#32
  | .strrst inp out => 0#22 ++ BitVec.ofBool out ++ BitVec.ofBool inp ++ 0x03#8
  | .requant src dst => 0#12 ++ dst ++ src ++ 0x10#8
  | .rdu wc be => encodeSized wc be 0x20#8
  | .wru wc be => encodeSized wc be 0x21#8
  | .wrnib => 0x00000022#32
  | .setfmt => 0x00000030#32
  | .setfmtid id => 0#20 ++ id ++ 0x31#8
  | .decpix => 0x00000032#32
  | .encpix => 0x00000033#32
  | .taddr => 0x00000040#32
  | .set3ds o pad => encodeOriented o pad 0x41#8
  | .t3ds => 0x00000042#32
  | .load o pad => encodeOriented o pad 0x50#8
  | .save o pad => encodeOriented o pad 0x51#8

/-- The host's question: the command that a word of `nbits` bits decodes to. A command is exactly one 32-bit word (R100),
so bits above bit 31 may not be set. -/
def decodeTableWord (nbits w : Nat) : Option Instr :=
  if w < 2 ^ min nbits 32 then
    match decode (BitVec.ofNat 32 w) with
    | .ok i => some i
    | .error _ => none
  else none

end Sys2Proof
end

