-- ==== Sys2Proof/Config.lean ====
section
/-! DEFINITION. What an implementation fixes (00_scope.md R10) and the free values of what the spec leaves open
(20_memory.md R87). -/

namespace Sys2Proof

/-- The three buffers, each its own address space (20_memory R70). -/
inductive Buffer where
  /-- the input buffer IN, by byte -/
  | inp
  /-- the output buffer OUT, by byte -/
  | out
  /-- the bitmap buffer BMP, in its little-endian byte view (R71) -/
  | bmp
deriving DecidableEq, Repr

/-- The implementation's parameters (00_scope R10, 20_memory R80). They stand in State, no step changes them, and a
statement over every state holds for every value of them (log 4). -/
structure Params where
  /-- bytes in IN -/
  inSize : Nat
  /-- bytes in OUT -/
  outSize : Nat
  /-- 32-bit words in BMP -/
  bmpWords : Nat
  /-- PXSWZ_BASE, the platform's base address of the host map -/
  base : Nat
deriving DecidableEq, Repr

/-- The constraints of R10. -/
abbrev Params.Ok (p : Params) : Prop :=
  (32 ≤ p.inSize ∧ p.inSize ≤ 0x100000) ∧ (32 ≤ p.outSize ∧ p.outSize ≤ 0x200000) ∧
    (1 ≤ p.bmpWords ∧ p.bmpWords ≤ 0x100000)

/-- The byte that power-on left at an offset of a buffer: unspecified (R87, R351), so a free value. The first argument
counts the power-on resets: each draws anew. No body: nothing can be proved of a value of it (log 3). -/
opaque Config.powerOnByte : Nat → Buffer → Nat → Byte

end Sys2Proof
end

