-- ==== Sys2Proof/Machine/State.lean ====
section
/-! DEFINITION. The state of PXSWZ as plain data (10_state.md R20 to R55, 20_memory.md R70), the reasons a step stops, and
the state after power-on reset (R54, R350). -/

namespace Sys2Proof.Machine

/-- The error codes of 60_exceptions R321, in their order 0 to 9. -/
inductive ErrCode where
  | noError | illegal | config | validation | io | state | range | capacity | bounds | unsupported
deriving DecidableEq, Repr

/-- STATUS (10_state R25), one field per named bit or byte. Bits 15:9 are reserved and read 0, so nothing is stored for
them (log 12). -/
structure Status where
  /-- bit 0, FMT_VALID (R26) -/
  fmtValid : Bool
  /-- bit 1, T3DS_VALID (R27) -/
  t3dsValid : Bool
  /-- bit 2, HDR_VALID (R28) -/
  hdrValid : Bool
  /-- bit 3, END (R29) -/
  endFlag : Bool
  /-- bit 4, NIBW_PEND (R30) -/
  nibwPend : Bool
  /-- bit 5, NIBR_PEND (R31) -/
  nibrPend : Bool
  /-- bit 6, NIB_DROP, sticky (R32) -/
  nibDrop : Bool
  /-- bit 7, SHORT (R33) -/
  short : Bool
  /-- bit 8, DROPPED, sticky (R34) -/
  dropped : Bool
  /-- bits 23:16, ERR (R35, R321) -/
  err : ErrCode
  /-- bits 31:24, ERR_OP (R35) -/
  errOp : BitVec 8
deriving DecidableEq, Repr

/-- A buffer's written bytes: offsets strictly rising, one entry for each byte something has written since power-on. An
offset with no entry has no value here; a read of it gives the free value of log 3. -/
abbrev Memory := List Host.Cell

/-- The canonical form of a memory: offsets strictly rising. -/
abbrev Memory.wf (m : Memory) : Prop := m.Pairwise (fun c d => c.1 < d.1)

/-- What the world outside does to the block, one entry per host access (00_scope R9), and the platform's power-on reset
(70_reset R350). Addresses are absolute; widths are in bytes. -/
inductive HostOp where
  /-- a host read of `width` bytes -/
  | read (addr width : Nat)
  /-- a host write of the low `width` bytes of `value` -/
  | write (addr width : Nat) (value : Word)
  /-- the platform's reset input -/
  | powerOn
deriving DecidableEq, Repr

/-- The state of the block (10_state R20), its parameters (00_scope R10), and three fields of the model's own: `powerOns`,
`pending` and `hostData` (log 1, 2, 5). -/
structure State where
  /-- ARG0 (R23) -/
  arg0 : Word
  /-- ARG1 (R23) -/
  arg1 : Word
  /-- RES0 (R24) -/
  res0 : Word
  /-- RES1 (R24) -/
  res1 : Word
  /-- STATUS (R25) -/
  status : Status
  /-- FMT (R37) -/
  fmt : Word
  /-- IN_LEN (R38) -/
  inLen : Word
  /-- IN_POS (R39) -/
  inPos : Word
  /-- OUT_LEN (R40) -/
  outLen : Word
  /-- NIBW[3:0] (R30); bits 31:4 read 0 -/
  nibw : BitVec 4
  /-- NIBR[3:0] (R31); bits 31:4 read 0 -/
  nibr : BitVec 4
  /-- TILE_K[4:0] (R41); bits 31:5 read 0 -/
  tileK : BitVec 5
  /-- TILE_RK[4:0] (R42); bits 31:5 read 0 -/
  tileRk : BitVec 5
  /-- TILE_STRIDE (R43) -/
  tileStride : Word
  /-- TILE_ORIGIN: x in 15:0, y in 31:16 (R44) -/
  tileOrigin : Word
  /-- TBL0..TBL15: dx in 15:0, dy in 31:16 (R45) -/
  tbl : Vector Word 16
  /-- RT0..RT15: dx in 15:0, dy in 31:16 (R46) -/
  rt : Vector Word 16
  /-- T3DS_CFG[2:0]: ORIENT in 1:0, PAD in 2 (R48); bits 31:3 read 0 -/
  t3dsCfg : BitVec 3
  /-- T3DS_W (R49) -/
  t3dsW : Word
  /-- T3DS_H (R49) -/
  t3dsH : Word
  /-- BMP_W[15:0] (R50); bits 31:16 read 0 -/
  bmpW : BitVec 16
  /-- BMP_H[15:0] (R50); bits 31:16 read 0 -/
  bmpH : BitVec 16
  /-- HDR0..HDR7 (R51) -/
  hdr : Vector Word 8
  /-- buffer IN (20_memory R70) -/
  inBuf : Memory
  /-- buffer OUT (20_memory R70) -/
  outBuf : Memory
  /-- buffer BMP, byte view (20_memory R70, R71) -/
  bmp : Memory
  /-- IN_SIZE, OUT_SIZE, BMP_WORDS, PXSWZ_BASE: constant (log 4) -/
  params : Params
  /-- the model's own: how many power-on resets have happened (log 5) -/
  powerOns : Nat
  /-- the model's own: the host accesses still to be served, first one first (log 1) -/
  pending : List HostOp
  /-- the model's own: the word the latest host read returned (log 2) -/
  hostData : Option Word
deriving DecidableEq, Repr

/-- A stop of the machine. Both are raised only in states no run reaches (Safety.lean's invariant rules them out), where
the spec gives no effect; stopping there is safe (log 9). -/
inductive Fault where
  /-- DECPIX or ENCPIX with FMT_VALID = 1 and FMT.FAMILY = 3, which SETFMT never stores (43_pixel_codec R181). Safe. -/
  | blockDescriptor
  /-- SAVE with HDR_VALID = 1 and a format id outside 0..11 in HDR3, which LOAD never latches (46_container R285). Safe. -/
  | headerNotLoadable
deriving DecidableEq, Repr

/-- An access or an instruction the model gives no step. -/
inductive Refusal where
  /-- `exec` on an instruction that has no meaning yet; raised by no arm of this model. Safe. -/
  | notModelled (mnemonic : String)
  /-- a host register access that is not 32 bits wide at a multiple of 4: "it has no step" (10_state R53). Raised by
  `serve`. Safe. -/
  | registerAccess
  /-- a host window access that is not 1, 2 or 4 bytes wide and naturally aligned: "it has no step" (20_memory R72). Raised
  by `serve`. Safe. -/
  | windowAccess
  /-- a host access below PXSWZ_BASE or past the BMP window: not this block's (10_state R52; log 7). Raised by `serve`.
  Safe. -/
  | outsideMap
deriving DecidableEq, Repr

/-- STATUS = 0x00000000 (R54). -/
def Status.reset : Status :=
  { fmtValid := false, t3dsValid := false, hdrValid := false, endFlag := false, nibwPend := false, nibrPend := false,
    nibDrop := false, short := false, dropped := false, err := .noError, errOp := 0#8 }

/-- Power-on reset (R54, R350): every register 0, every buffer byte unspecified (nothing listed: free values). The
parameters' values are the model's choice (log 4), as are the model's own fields (log 1, 2, 5). -/
def State.reset : State :=
  { arg0 := 0#32, arg1 := 0#32, res0 := 0#32, res1 := 0#32, status := Status.reset, fmt := 0#32, inLen := 0#32,
    inPos := 0#32, outLen := 0#32, nibw := 0#4, nibr := 0#4, tileK := 0#5, tileRk := 0#5, tileStride := 0#32,
    tileOrigin := 0#32, tbl := Vector.replicate 16 0#32, rt := Vector.replicate 16 0#32, t3dsCfg := 0#3, t3dsW := 0#32,
    t3dsH := 0#32, bmpW := 0#16, bmpH := 0#16, hdr := Vector.replicate 8 0#32, inBuf := [], outBuf := [], bmp := [],
    params := { inSize := 4096, outSize := 4096, bmpWords := 4096, base := 0 }, powerOns := 0, pending := [],
    hostData := none }

end Sys2Proof.Machine
end

