-- ==== Sys2Proof/Machine/Flags.lean ====
section
/-! DEFINITION. STATUS as a word (10_state.md R25), the error codes (60_exceptions.md R321), and every flag update the
commands share. -/

namespace Sys2Proof.Machine

/-- The number STATUS.ERR holds for each code (60_exceptions R321). -/
def ErrCode.number : ErrCode → BitVec 8
  | .noError => 0#8
  | .illegal => 1#8
  | .config => 2#8
  | .validation => 3#8
  | .io => 4#8
  | .state => 5#8
  | .range => 6#8
  | .capacity => 7#8
  | .bounds => 8#8
  | .unsupported => 9#8

/-- STATUS as the host reads it (10_state R25): ERR_OP, ERR, seven reserved zeros, then bits 8 down to 0. -/
def Status.word (f : Status) : Word :=
  f.errOp ++ f.err.number ++ 0#7 ++ BitVec.ofBool f.dropped ++ BitVec.ofBool f.short ++ BitVec.ofBool f.nibDrop ++
    BitVec.ofBool f.nibrPend ++ BitVec.ofBool f.nibwPend ++ BitVec.ofBool f.endFlag ++ BitVec.ofBool f.hdrValid ++
    BitVec.ofBool f.t3dsValid ++ BitVec.ofBool f.fmtValid

/-- An error raised by a command, with the information R323 records. -/
inductive CmdError where
  | illegal
  | config
  /-- the register's dimension, the header's, and which one: 0 width, 1 height -/
  | validation (actual expected : BitVec 16) (dim : Word)
  | io
  | state
  | range
  | capacity
  /-- the failing pixel index -/
  | bounds (i : Nat)
  | unsupported
deriving DecidableEq, Repr

/-- The code of an error (60_exceptions R321). -/
def CmdError.code : CmdError → ErrCode
  | .illegal => .illegal
  | .config => .config
  | .validation _ _ _ => .validation
  | .io => .io
  | .state => .state
  | .range => .range
  | .capacity => .capacity
  | .bounds _ => .bounds
  | .unsupported => .unsupported

/-- ERR and ERR_OP of an error entry (60_exceptions R323). -/
def Status.recordError (f : Status) (e : ErrCode) (op : BitVec 8) : Status := { f with err := e, errOp := op }

/-- CLRERR's flags (47_control R310). -/
def Status.acknowledge (f : Status) : Status :=
  { f with err := .noError, errOp := 0#8, dropped := false, nibDrop := false }

/-- A restart of the input stream clears NIBR_PEND and END (42_stream_io R156, 10_state R39). -/
def Status.restartIn (f : Status) : Status := { f with nibrPend := false, endFlag := false }

/-- A restart of the output stream drops a pending write nibble, surfaced by NIB_DROP (42_stream_io R156, 10_state R32). -/
def Status.restartOut (f : Status) : Status :=
  { f with nibDrop := f.nibDrop || f.nibwPend, nibwPend := false }

end Sys2Proof.Machine
end

