-- ==== Sys2Proof/Machine/Operands.lean ====
section
/-! DEFINITION. Operand forms: width codes, byte order, register fields (30_encoding.md R102, R103, R107; 00_scope.md R11
to R13, R16; 20_memory.md R73, R74). -/

namespace Sys2Proof.Machine

/-- The bytes a width code selects; none for the reserved codes 5, 6, 7 (R102). -/
def nbytes (wc : BitVec 3) : Option Nat :=
  if wc = 0#3 then some 1
  else if wc = 1#3 then some 2
  else if wc = 2#3 then some 3
  else if wc = 3#3 then some 4
  else if wc = 4#3 then some 8
  else none

/-- `LE(b0..bn-1)`: the first byte is bits 7:0 (00_scope R13). -/
def leValue : List Byte → Nat
  | [] => 0
  | b :: bs => b.toNat + 256 * leValue bs

/-- `BE(b0..bn-1)`: the last byte is bits 7:0 (00_scope R13). -/
def beValue (bs : List Byte) : Nat := leValue bs.reverse

/-- `LEbytes(v, n)` (00_scope R13): the low `8n` bits of v, bits 7:0 first. -/
def leBytes (v : Nat) : Nat → List Byte
  | 0 => []
  | n + 1 => BitVec.ofNat 8 v :: leBytes (v / 256) n

/-- `BEbytes(v, n)` (00_scope R13). -/
def beBytes (v n : Nat) : List Byte := (leBytes v n).reverse

/-- A stream value in the selected byte order (20_memory R74). -/
def orderedValue (be : Bool) (bs : List Byte) : Nat := if be then beValue bs else leValue bs

/-- The bytes of a stream value in the selected byte order (20_memory R74). -/
def orderedBytes (be : Bool) (v n : Nat) : List Byte := if be then beBytes v n else leBytes v n

/-- An unsigned register field `v[lo+n-1:lo]` as a number (00_scope R11). -/
def field (v : Word) (lo n : Nat) : Nat := (v.extractLsb' lo n).toNat

/-- The A channel of a canonical colour, bits 31:24 (00_scope R16). -/
def chanA (c : Word) : Nat := field c 24 8
/-- The R channel, bits 23:16 (00_scope R16). -/
def chanR (c : Word) : Nat := field c 16 8
/-- The G channel, bits 15:8 (00_scope R16). -/
def chanG (c : Word) : Nat := field c 8 8
/-- The B channel, bits 7:0 (00_scope R16). -/
def chanB (c : Word) : Nat := field c 0 8

/-- The canonical colour word `{A, R, G, B}` (00_scope R16). -/
def argb (a r g b : Nat) : Word :=
  BitVec.ofNat 8 a ++ BitVec.ofNat 8 r ++ BitVec.ofNat 8 g ++ BitVec.ofNat 8 b

/-- A table entry, an origin or a pair of dimensions: the low half and the high half, each unsigned (R107). -/
def halves (w : Word) : Nat × Nat := (field w 0 16, field w 16 16)

/-- The value a WRU of n bytes stores: `{ARG1, ARG0}` for 8 bytes, else the low 8n bits of ARG0 (42_stream_io R153). -/
def wruValue (n : Nat) (s : State) : Nat :=
  if n = 8 then s.arg0.toNat + 2 ^ 32 * s.arg1.toNat else s.arg0.toNat % 2 ^ (8 * n)

end Sys2Proof.Machine
end

