-- ==== Sys2Proof/Machine/Ops.lean ====
section
/-! DEFINITION. The named operations on memory and registers: buffer reads and writes (00_scope.md R13, 20_memory.md R70 to
R79), error entry and the dropped command (60_exceptions.md R323, R324), how a command runs (30_encoding.md R106), and the
two resets (70_reset_and_hazards.md R350). -/

namespace Sys2Proof.Machine

/-! ### One memory -/

/-- The byte written last at an offset, none where nothing has written since power-on. -/
def Memory.read? : Memory → Nat → Option Byte
  | [], _ => none
  | (k, b) :: rest, a => if a = k then some b else Memory.read? rest a

/-- Write one byte, keeping the offsets strictly rising. -/
def Memory.write : Memory → Nat → Byte → Memory
  | [], a, b => [(a, b)]
  | (k, c) :: rest, a, b =>
    if a < k then (a, b) :: (k, c) :: rest
    else if a = k then (a, b) :: rest
    else (k, c) :: Memory.write rest a b

/-- Write bytes at offsets a, a+1, ... (`MemWrite`, R13). -/
def Memory.writeBytes : Memory → Nat → List Byte → Memory
  | m, _, [] => m
  | m, a, b :: bs => Memory.writeBytes (Memory.write m a b) (a + 1) bs

/-- Write a 32-bit word of BMP's byte view, little-endian (20_memory R71). -/
def Memory.writeWord (m : Memory) (i : Nat) (w : Word) : Memory := Memory.writeBytes m (4 * i) (leBytes w.toNat 4)

/-! ### The three buffers of a state -/

/-- The memory of a buffer (20_memory R70). -/
def State.bufMem (s : State) : Buffer → Memory
  | .inp => s.inBuf
  | .out => s.outBuf
  | .bmp => s.bmp

/-- The size in bytes of a buffer (20_memory R70): BMP has 4*BMP_WORDS. -/
def bufSize (p : Params) : Buffer → Nat
  | .inp => p.inSize
  | .out => p.outSize
  | .bmp => 4 * p.bmpWords

/-- What an offset of a memory reads as: the byte written last, else the free value power-on left there (R87; log 3). -/
def Memory.byteAt (m : Memory) (epoch : Nat) (b : Buffer) (a : Nat) : Byte :=
  match Memory.read? m a with
  | some x => x
  | none => Config.powerOnByte epoch b a

/-- One byte of a buffer (20_memory R70, R87). -/
def readByte (s : State) (b : Buffer) (a : Nat) : Byte := Memory.byteAt (s.bufMem b) s.powerOns b a

/-- `MemRead(S, a, n)` (00_scope R13). -/
def readBytes (s : State) (b : Buffer) (a n : Nat) : List Byte := (List.range n).map fun i => readByte s b (a + i)

/-- `BmpRead(i)`: word i of BMP (00_scope R13, 20_memory R71). -/
def readBmp (s : State) (i : Nat) : Word := BitVec.ofNat 32 (leValue (readBytes s .bmp (4 * i) 4))

/-- `MemWrite(OUT, OUT_LEN, n, bytes)` and the advance of OUT_LEN: the append every stream write makes (42_stream_io R150). -/
def appendOut (s : State) (bytes : List Byte) : State :=
  { s with
    outBuf := Memory.writeBytes s.outBuf s.outLen.toNat bytes
    outLen := s.outLen + BitVec.ofNat 32 bytes.length }

/-- Would n more bytes pass OUT_SIZE (20_memory R79)? -/
def outOverflows (s : State) (n : Nat) : Bool := decide (s.params.outSize < s.outLen.toNat + n)

/-- Would n bytes at IN_POS reach past IN_LEN (20_memory R79)? -/
def inShort (s : State) (n : Nat) : Bool := decide (s.inLen.toNat < s.inPos.toNat + n)

/-- The cursor moves past n bytes (42_stream_io R150). -/
def advanceIn (s : State) (n : Nat) : State := { s with inPos := s.inPos + BitVec.ofNat 32 n }

/-! ### Errors, and how a command runs -/

/-- What ends a command before its staged writes are committed: an error the spec names, or a fault of the model. -/
inductive Stop where
  | raised (e : CmdError)
  | stuck (f : Fault)
deriving DecidableEq, Repr

/-- `raise E(info)` (00_scope R14). -/
def raise {α : Type} (e : CmdError) : Except Stop α := .error (.raised e)

/-- Error entry (60_exceptions R323), on the state from before the command: ERR and ERR_OP, and for VALIDATION and BOUNDS
the information in RES0 and RES1. Nothing else changes. -/
def errorEntry (op : BitVec 8) (e : CmdError) (s : State) : State :=
  let t := { s with status := s.status.recordError e.code op }
  match e with
  | .validation actual expected dim => { t with res0 := actual ++ expected, res1 := dim }
  | .bounds i => { t with res0 := BitVec.ofNat 32 i, res1 := 0#32 }
  | .illegal | .config | .io | .state | .range | .capacity | .unsupported => t

/-- A command dropped while an error is recorded (60_exceptions R324). -/
def dropCommand (s : State) : State := { s with status := { s.status with dropped := true } }

/-- The return from an error (60_exceptions R326, 47_control R310). -/
def clearErrors (s : State) : State := { s with status := s.status.acknowledge }

/-- How every command but CLRERR and SRESET runs (30_encoding R106): dropped while an error is recorded; else its staged
writes are committed together when it reaches its end, and discarded when it raises (00_scope R14). -/
def runCommand (op : BitVec 8) (body : State → Except Stop State) (s : State) : Host.Outcome State Fault Refusal :=
  if s.status.err = .noError then
    match body s with
    | .ok t => .next t
    | .error (.raised e) => .next (errorEntry op e s)
    | .error (.stuck f) => .fault f
  else .next (dropCommand s)

/-- A word that is no command (30_encoding R105, R106): dropped while an error is recorded, else ILLEGAL. -/
def illegalCommand (op : BitVec 8) (s : State) : State :=
  if s.status.err = .noError then errorEntry op .illegal s else dropCommand s

/-! ### The two resets -/

/-- Every register to its reset value; the buffers and what is not a register are kept (70_reset R350, 47_control R311). -/
def resetRegisters (s : State) : State :=
  { State.reset with
    inBuf := s.inBuf, outBuf := s.outBuf, bmp := s.bmp, params := s.params, powerOns := s.powerOns
    pending := s.pending, hostData := s.hostData }

/-- Power-on reset (70_reset R350, R351): every register to its reset value, every buffer byte unspecified, drawn anew
(log 5). -/
def powerOnReset (s : State) : State :=
  { resetRegisters s with inBuf := [], outBuf := [], bmp := [], powerOns := s.powerOns + 1 }

end Sys2Proof.Machine
end

