-- ==== Sys2Proof/Machine/Requant.lean ====
section
/-! DEFINITION. The bit-depth requantizer (41_requantizer.md R130 to R134). -/

namespace Sys2Proof.Machine

/-- The upscale search of R130: `while R % M != 0: R = 2*R + 1; d = 2*d`, with at most `fuel` rounds. R131 bounds the
rounds by f - 1, so `fuel = f` never cuts the loop short (log 11). -/
def doublingSearch (M : Nat) : Nat → Nat → Nat → Nat × Nat
  | 0, R, d => (R, d)
  | fuel + 1, R, d => if R % M = 0 then (R, d) else doublingSearch M fuel (2 * R + 1) (2 * d)

/-- `requant(v, f, t)` (R130), case by case in the rule's order. -/
def requant (v f t : Nat) : Nat :=
  if f = t then v
  else if f = 0 ∨ t = 0 then 0
  else if f < t then
    let M := 2 ^ f - 1
    let p := doublingSearch M f (2 ^ t - 1) 1
    v * (p.1 / M) / p.2
  else v / (2 ^ f / 2 ^ t)

/-- REQUANT's staged effect (R134). -/
def requantBody (src dst : BitVec 6) (s : State) : Except Stop State :=
  if src.toNat > 32 ∨ dst.toNat > 32 then raise .config
  else if s.arg0.toNat ≥ 2 ^ src.toNat then raise .range
  else .ok { s with res0 := BitVec.ofNat 32 (requant s.arg0.toNat src.toNat dst.toNat) }

/-- REQUANT (R134). -/
def execRequant (src dst : BitVec 6) (s : State) : Host.Outcome State Fault Refusal :=
  runCommand (Instr.requant src dst).opcode (requantBody src dst) s

end Sys2Proof.Machine
end

