-- ==== Sys2Proof/Machine/Format.lean ====
section
/-! DEFINITION. Pixel-format descriptors and the conversion of one unit value (43_pixel_codec.md R180 to R193): pure
functions of the descriptor word. -/

namespace Sys2Proof.Machine

/-- The three families PXSWZ codes (R180). -/
inductive Layout where
  /-- FAMILY 0: channel-packed RGB/RGBA -/
  | rgba
  /-- FAMILY 1: luminance and alpha -/
  | la
  /-- FAMILY 2: two generic channels H and L -/
  | hl
deriving DecidableEq, Repr

/-- FMT[5:0] (10_state R37). -/
def fmtD0 (w : Word) : Nat := field w 0 6
/-- FMT[11:6] (10_state R37). -/
def fmtD1 (w : Word) : Nat := field w 6 6
/-- FMT[17:12] (10_state R37). -/
def fmtD2 (w : Word) : Nat := field w 12 6
/-- FMT[23:18] (10_state R37). -/
def fmtD3 (w : Word) : Nat := field w 18 6
/-- FMT.FAMILY, bits 25:24 (10_state R37). -/
def fmtFamily (w : Word) : BitVec 2 := w.extractLsb' 24 2
/-- FMT.BE, bit 26 (10_state R37). -/
def fmtBe (w : Word) : Bool := w.getLsbD 26
/-- FMT.SWAP, bit 27 (10_state R37). -/
def fmtSwap (w : Word) : Bool := w.getLsbD 27
/-- FMT.BLKA, bit 28 (10_state R37). -/
def fmtBlka (w : Word) : Bool := w.getLsbD 28

/-- The family of a descriptor; none for FAMILY 3, block-compressed (R180). -/
def layoutOf (w : Word) : Option Layout :=
  if fmtFamily w = 0#2 then some .rgba
  else if fmtFamily w = 1#2 then some .la
  else if fmtFamily w = 2#2 then some .hl
  else none

/-- The total depth T (R180). -/
def totalDepth (l : Layout) (w : Word) : Nat :=
  match l with
  | .rgba => fmtD0 w + fmtD1 w + fmtD2 w + fmtD3 w
  | .la => fmtD0 w + fmtD3 w
  | .hl => fmtD0 w + fmtD3 w

/-- The checks of an RGBA descriptor (R181). -/
def checkRgba (w : Word) : Option CmdError :=
  if totalDepth .rgba w < 8 ∨ totalDepth .rgba w > 32 then some .config
  else if fmtD0 w + fmtD1 w + fmtD2 w = 0 then some .config
  else none

/-- The checks of an LA or HL descriptor (R181), in the rule's order. -/
def checkLh (w : Word) : Option CmdError :=
  if fmtD1 w ≠ 0 ∨ fmtD2 w ≠ 0 then some .config
  else if fmtSwap w then some .config
  else if fmtD0 w + fmtD3 w ≠ 4 ∧ fmtD0 w + fmtD3 w ≠ 8 ∧ fmtD0 w + fmtD3 w ≠ 16 then some .config
  else if fmtD0 w < 4 ∧ fmtD3 w < 4 then some .config
  else none

/-- `checkFmt(w)` (R181): the error a descriptor word raises, none for a valid one. -/
def checkFmt (w : Word) : Option CmdError :=
  if w.extractLsb' 29 3 ≠ 0#3 then some .config
  else if fmtFamily w = 3#2 then some .unsupported
  else if fmtBlka w then some .config
  else if fmtFamily w = 0#2 then checkRgba w
  else checkLh w

/-- `unitBytes(T)` of the RGBA family (R182). -/
def unitBytes (t : Nat) : Nat := if t ≤ 8 then 1 else if t ≤ 16 then 2 else if t ≤ 24 then 3 else 4

/-- LA and HL with T = 4 use nibbles (R184). -/
def isNibble (l : Layout) (w : Word) : Bool := decide (l ≠ .rgba) && decide (totalDepth l w = 4)

/-- The bytes of one unit, for formats not coded by nibbles: `unitBytes(T)` for RGBA (R182), `T / 8` for LA and HL (R195). -/
def unitSize (l : Layout) (w : Word) : Nat :=
  match l with
  | .rgba => unitBytes (totalDepth .rgba w)
  | .la => totalDepth .la w / 8
  | .hl => totalDepth .hl w / 8

/-- Channel positions (R183). -/
structure Shifts where
  r : Nat
  g : Nat
  b : Nat
  a : Nat
deriving DecidableEq, Repr

/-- `shifts(w)` (R183): from the least significant bit, Red, Green, Blue, Alpha when swapped, else Alpha, Blue, Green, Red. -/
def shifts (w : Word) : Shifts :=
  if fmtSwap w then { r := 0, g := fmtD0 w, b := fmtD0 w + fmtD1 w, a := fmtD0 w + fmtD1 w + fmtD2 w }
  else { a := 0, b := fmtD3 w, g := fmtD3 w + fmtD2 w, r := fmtD3 w + fmtD2 w + fmtD1 w }

/-- The field of depth d at position sh of a unit value, requantized to 8 bits (R190). -/
def unpackChannel (v sh d : Nat) : Nat := requant ((v >>> sh) &&& (2 ^ d - 1)) d 8

/-- `decodeRGBA(w, v)` (R190): an absent alpha is 255. -/
def decodeRgba (w : Word) (v : Nat) : Word :=
  argb (if fmtD3 w = 0 then 255 else unpackChannel v (shifts w).a (fmtD3 w))
    (unpackChannel v (shifts w).r (fmtD0 w))
    (unpackChannel v (shifts w).g (fmtD1 w))
    (unpackChannel v (shifts w).b (fmtD2 w))

/-- `encodeRGBA(w, c)` (R191). -/
def encodeRgba (w c : Word) : Nat :=
  (requant (chanR c) 8 (fmtD0 w) <<< (shifts w).r) ||| (requant (chanG c) 8 (fmtD1 w) <<< (shifts w).g) |||
    (requant (chanB c) 8 (fmtD2 w) <<< (shifts w).b) ||| (requant (chanA c) 8 (fmtD3 w) <<< (shifts w).a)

/-- The high field of an LA or HL unit, 255 when it has no bits (R184, R192). -/
def highField (w : Word) (v : Nat) : Nat := if fmtD0 w = 0 then 255 else unpackChannel v (fmtD3 w) (fmtD0 w)

/-- The low field of an LA or HL unit, 255 when it has no bits (R184, R192). -/
def lowField (w : Word) (v : Nat) : Nat := if fmtD3 w = 0 then 255 else unpackChannel v 0 (fmtD3 w)

/-- A unit value's canonical colour: `decodeRGBA` (R190), `decodeLH` for LA and for HL (R192). -/
def decodeUnit (l : Layout) (w : Word) (v : Nat) : Word :=
  match l with
  | .rgba => decodeRgba w v
  | .la => argb (lowField w v) (highField w v) (highField w v) (highField w v)
  | .hl => argb 255 (highField w v) (lowField w v) 255

/-- A canonical colour's unit value: `encodeRGBA` (R191), `encodeLH` (R193): LA takes L from R and A from A, HL takes H
from R and L from G. -/
def encodeUnit (l : Layout) (w c : Word) : Nat :=
  match l with
  | .rgba => encodeRgba w c
  | .la => (requant (chanR c) 8 (fmtD0 w) <<< fmtD3 w) ||| requant (chanA c) 8 (fmtD3 w)
  | .hl => (requant (chanR c) 8 (fmtD0 w) <<< fmtD3 w) ||| requant (chanG c) 8 (fmtD3 w)

/-- The format-id table `FMTID`, ids 0 to 11 (R185). -/
def fmtTable : List Word :=
  [0x00208208#32, 0x00008208#32, 0x00045145#32, 0x00005185#32, 0x00104104#32, 0x01200008#32,
   0x02200008#32, 0x01000008#32, 0x01200000#32, 0x01100004#32, 0x01000004#32, 0x01100000#32]

end Sys2Proof.Machine
end

