-- ==== Sys2Proof/Machine/Tile.lean ====
section
/-! DEFINITION. The generalized tile-address engine (44_tile_engine.md R240 to R243) and its 3DS specialization
(45_tile_3ds.md R260 to R266). -/

namespace Sys2Proof.Machine

/-! ### The address function -/

/-- `tileW(tbl)` (R240): the OR of the x offsets, plus 1. -/
def tileW (tbl : List (Nat × Nat)) : Nat := tbl.foldl (fun a e => a ||| e.1) 0 + 1

/-- `tileH(tbl)` (R240): the OR of the y offsets, plus 1. -/
def tileH (tbl : List (Nat × Nat)) : Nat := tbl.foldl (fun a e => a ||| e.2) 0 + 1

/-- `tilesPerRow(tbl, S) = ceil(S / tileW(tbl))` (R240, 00_scope R12). -/
def tilesPerRow (tbl : List (Nat × Nat)) (stride : Nat) : Nat := (stride + tileW tbl - 1) / tileW tbl

/-- XOR in every entry j, from `j` on, whose bit of n is set (R242). -/
def foldOffsets : List (Nat × Nat) → Nat → Nat → Nat × Nat → Nat × Nat
  | [], _, _, acc => acc
  | e :: rest, j, n, acc =>
    foldOffsets rest (j + 1) n (if n.testBit j then (acc.1 ^^^ e.1, acc.2 ^^^ e.2) else acc)

/-- `addrWith(tbl, rt, o, S, n)` (R242), exact. -/
def addrWith (tbl rt : List (Nat × Nat)) (o : Nat × Nat) (stride n : Nat) : Nat × Nat :=
  let w := tileW tbl
  let h := tileH tbl
  let t := n / (w * h)
  let mx := t % tilesPerRow tbl stride
  let my := t / tilesPerRow tbl stride
  let a := foldOffsets rt 0 my (foldOffsets tbl 0 n o)
  (mx * w + a.1, my * h + a.2)

/-! ### The register-held descriptor -/

/-- The valid entries TBL0..TBL(TILE_K-1) (10_state R45). -/
def tblEntries (s : State) : List (Nat × Nat) := (s.tbl.toList.take s.tileK.toNat).map halves

/-- The valid entries RT0..RT(TILE_RK-1) (10_state R46). -/
def rtEntries (s : State) : List (Nat × Nat) := (s.rt.toList.take s.tileRk.toNat).map halves

/-- `addr(n)`: the register form of the address function (R242). -/
def addrReg (s : State) (n : Nat) : Nat × Nat :=
  addrWith (tblEntries s) (rtEntries s) (halves s.tileOrigin) s.tileStride.toNat n

/-- `checkTile()` passes (R241): a table of 1 to 16 entries, at most 16 row entries, a stride. -/
def tileOk (s : State) : Bool :=
  decide (1 ≤ s.tileK.toNat ∧ s.tileK.toNat ≤ 16) && decide (s.tileRk.toNat ≤ 16) && decide (s.tileStride ≠ 0#32)

/-- TILE_W as the host reads it (10_state R47). -/
def tileWView (s : State) : Word :=
  if 1 ≤ s.tileK.toNat ∧ s.tileK.toNat ≤ 16 then BitVec.ofNat 32 (tileW (tblEntries s)) else 0#32

/-- TILE_H as the host reads it (10_state R47). -/
def tileHView (s : State) : Word :=
  if 1 ≤ s.tileK.toNat ∧ s.tileK.toNat ≤ 16 then BitVec.ofNat 32 (tileH (tblEntries s)) else 0#32

/-- TADDR's staged effect (R243): x and y modulo 2^32. -/
def taddrBody (s : State) : Except Stop State :=
  if tileOk s then
    let p := addrReg s s.arg0.toNat
    .ok { s with res0 := BitVec.ofNat 32 p.1, res1 := BitVec.ofNat 32 p.2 }
  else raise .config

/-- TADDR (R243). -/
def execTaddr (s : State) : Host.Outcome State Fault Refusal := runCommand Instr.taddr.opcode taddrBody s

/-! ### The 3DS specialization -/

/-- The words of `TBL3DS`, in the TBL register layout (R260). -/
def tbl3dsWords : List Word :=
  [0x00000001#32, 0x00010000#32, 0x00000002#32, 0x00020000#32, 0x00000004#32, 0x00040000#32]

/-- `TBL3DS`: (1,0), (0,1), (2,0), (0,2), (4,0), (0,4) (R260). -/
def tbl3ds : List (Nat × Nat) := [(1, 0), (0, 1), (2, 0), (0, 2), (4, 0), (0, 4)]

/-- `padDim(d)` for d >= 1 (R261): the exact logarithm, and 1 for d = 1. No command uses it at 0 (log 13). -/
def padDim (d : Nat) : Nat := if d ≤ 1 then 1 else 2 <<< Nat.log2 (d - 1)

/-- The effective dimension: padded or not (R265, 46_container R284). -/
def effective (pad : Bool) (d : Nat) : Nat := if pad then padDim d else d

/-- The 3DS stride: the effective width for codes 0 and 3, the effective height for 1 and 2 (R262). -/
def stride3ds (o : Orient) (we he : Nat) : Nat :=
  match o with
  | .identity => we
  | .transpose => he
  | .rotateCcw => he
  | .flipVertical => we

/-- `orient(o, (x, y), He)` (R263): exact, possibly negative. -/
def orient (o : Orient) (p : Nat × Nat) (he : Nat) : Int × Int :=
  match o with
  | .identity => (p.1, p.2)
  | .transpose => (p.2, p.1)
  | .rotateCcw => (p.2, (he : Int) - 1 - p.1)
  | .flipVertical => (p.1, (he : Int) - 1 - p.2)

/-- `addr3ds(n, o, We, He)` (R264). -/
def addr3ds (n : Nat) (o : Orient) (we he : Nat) : Int × Int :=
  orient o (addrWith tbl3ds [] (0, 0) (stride3ds o we he) n) he

/-- The first six entries of TBL replaced by the 3DS table (R265); TBL6..TBL15 are kept. -/
def load3dsTable (t : Vector Word 16) : Vector Word 16 :=
  ((((((t.set 0 0x00000001#32).set 1 0x00010000#32).set 2 0x00000002#32).set 3 0x00020000#32).set 4
    0x00000004#32).set 5 0x00040000#32)

/-- SET3DS's staged effect (R265). -/
def set3dsBody (o : Orient) (pad : Bool) (s : State) : Except Stop State :=
  let wd := field s.arg0 0 16
  let ht := field s.arg0 16 16
  if wd = 0 ∨ ht = 0 then raise .config
  else
    let we := effective pad wd
    let he := effective pad ht
    .ok { s with
      tbl := load3dsTable s.tbl
      tileK := 6#5
      tileRk := 0#5
      tileOrigin := 0#32
      tileStride := BitVec.ofNat 32 (stride3ds o we he)
      t3dsCfg := BitVec.ofBool pad ++ o.code
      t3dsW := BitVec.ofNat 32 we
      t3dsH := BitVec.ofNat 32 he
      status := { s.status with t3dsValid := true } }

/-- SET3DS (R265). -/
def execSet3ds (o : Orient) (pad : Bool) (s : State) : Host.Outcome State Fault Refusal :=
  runCommand (Instr.set3ds o pad).opcode (set3dsBody o pad) s

/-- T3DS_CFG.ORIENT (10_state R48). -/
def cfgOrient (s : State) : Orient := Orient.ofCode (s.t3dsCfg.extractLsb' 0 2)

/-- T3DS's staged effect (R266): the tile registers as they are now, then the orientation, modulo 2^32. -/
def t3dsBody (s : State) : Except Stop State :=
  if s.status.t3dsValid then
    if tileOk s then
      let p := orient (cfgOrient s) (addrReg s s.arg0.toNat) s.t3dsH.toNat
      .ok { s with res0 := BitVec.ofInt 32 p.1, res1 := BitVec.ofInt 32 p.2 }
    else raise .config
  else raise .state

/-- T3DS (R266). -/
def execT3ds (s : State) : Host.Outcome State Fault Refusal := runCommand Instr.t3ds.opcode t3dsBody s

end Sys2Proof.Machine
end

