-- ==== Sys2Proof/Machine/Container.lean ====
section
/-! DEFINITION. The container engine: LOAD and SAVE (46_container.md R280 to R285). -/

namespace Sys2Proof.Machine

/-- The header fields LOAD and SAVE read, signed as R281 says. -/
structure Header where
  /-- int32 at offset 4 -/
  dataSize : Int
  /-- int32 at offset 12 -/
  formatId : Int
  /-- int16 at offset 16 -/
  width : Int
  /-- int16 at offset 18 -/
  height : Int
deriving DecidableEq, Repr

/-- The fields of the eight header words (R280, R281): HDR1, HDR3 and the two halves of HDR4. -/
def headerOf (hdr : Vector Word 8) : Header :=
  { dataSize := hdr[1].toInt
    formatId := hdr[3].toInt
    width := (hdr[4].extractLsb' 0 16).toInt
    height := (hdr[4].extractLsb' 16 16).toInt }

/-- The eight little-endian words of IN's first 32 bytes (10_state R51). -/
def inHeader (s : State) : Vector Word 8 :=
  Vector.ofFn fun k => BitVec.ofNat 32 (leValue (readBytes s .inp (4 * k.val) 4))

/-- The table entry of a container's format id: its family and descriptor (43_pixel_codec R185). -/
def tableFormat (fid : Int) : Option (Layout × Word) :=
  if 0 ≤ fid then
    match fmtTable[fid.toNat]? with
    | some w => (layoutOf w).map fun l => (l, w)
    | none => none
  else none

/-- What LOAD and SAVE hold fixed while they walk the pixels: format, orientation, dimensions, effective dimensions. -/
structure Job where
  layout : Layout
  fmt : Word
  orient : Orient
  width : Nat
  height : Nat
  effW : Nat
  effH : Nat
deriving DecidableEq, Repr

/-- The job of a header under the command's ORIENT and PAD (R284, R285). -/
def jobOf (h : Header) (f : Layout × Word) (o : Orient) (pad : Bool) : Job :=
  { layout := f.1, fmt := f.2, orient := o, width := h.width.toNat, height := h.height.toNat,
    effW := effective pad h.width.toNat, effH := effective pad h.height.toNat }

/-- The number of pixels N = wd * ht (R284). -/
def Job.pixels (j : Job) : Nat := j.width * j.height

/-- The BMP word of payload pixel i, `y*wd + x` (R282), none when its address is outside the bitmap (R284). -/
def pixelWord (j : Job) (i : Nat) : Option Nat :=
  let p := addr3ds i j.orient j.effW j.effH
  if 0 ≤ p.1 ∧ p.1 < j.width ∧ 0 ≤ p.2 ∧ p.2 < j.height then some (p.2.toNat * j.width + p.1.toNat) else none

/-- `pixelAt(w, i, end)` (R283): the unit value of payload pixel i, none at the end of an RGBA payload. -/
def pixelAt (s : State) (j : Job) (endOff i : Nat) : Except CmdError (Option Nat) :=
  if isNibble j.layout j.fmt then
    if endOff < 32 + i / 2 + 1 then .error .io
    else
      let b := readByte s .inp (32 + i / 2)
      .ok (some (if i % 2 = 0 then (b.extractLsb' 0 4).toNat else (b.extractLsb' 4 4).toNat))
  else
    let n := unitSize j.layout j.fmt
    let a := 32 + i * n
    if j.layout = .rgba ∧ endOff ≤ a then .ok none
    else if endOff < a + n then .error .io
    else .ok (some (leValue (readBytes s .inp a n)))

/-- LOAD's loop (R284) over the pixels i, i+1, ... with `todo` of them left: BMP as staged so far and the count. -/
def loadPixels (s : State) (j : Job) (endOff : Nat) : Nat → Nat → Memory → Except CmdError (Memory × Nat)
  | 0, i, m => .ok (m, i)
  | todo + 1, i, m =>
    match pixelAt s j endOff i with
    | .error e => .error e
    | .ok none => .ok (m, i)
    | .ok (some u) =>
      match pixelWord j i with
      | none => .error (.bounds i)
      | some k => loadPixels s j endOff todo (i + 1) (Memory.writeWord m k (decodeUnit j.layout j.fmt u))

/-- LOAD's commit (R284): BMP, HDR, the dimensions, the flags and the count. -/
def commitLoad (s : State) (j : Job) (m : Memory) (count : Nat) : State :=
  { s with
    bmp := m
    hdr := inHeader s
    bmpW := BitVec.ofNat 16 j.width
    bmpH := BitVec.ofNat 16 j.height
    res0 := BitVec.ofNat 32 count
    status := { s.status with hdrValid := true, short := decide (count < j.pixels) } }

/-- LOAD's staged effect (R284), its checks in the order of 60_exceptions R322. -/
def loadBody (o : Orient) (pad : Bool) (s : State) : Except Stop State :=
  let h := headerOf (inHeader s)
  if s.inLen.toNat < 32 then raise .io
  else if h.dataSize < 0 ∨ (s.inLen.toNat : Int) < 32 + h.dataSize then raise .io
  else if h.formatId = 12 ∨ h.formatId = 13 then raise .unsupported
  else
    match tableFormat h.formatId with
    | none => raise .config
    | some f =>
      let j := jobOf h f o pad
      if h.width ≤ 0 ∨ h.height ≤ 0 then raise .config
      else if s.params.bmpWords < j.pixels then raise .capacity
      else
        match loadPixels s j (32 + h.dataSize.toNat) j.pixels 0 s.bmp with
        | .error e => raise e
        | .ok (m, count) => .ok (commitLoad s j m count)

/-- LOAD (R284). -/
def execLoad (o : Orient) (pad : Bool) (s : State) : Host.Outcome State Fault Refusal :=
  runCommand (Instr.load o pad).opcode (loadBody o pad) s

/-- SAVE's walk (R285) over the pixels i, i+1, ... with `todo` left: their unit values in payload order. -/
def savePixels (s : State) (j : Job) : Nat → Nat → Except CmdError (List Nat)
  | 0, _ => .ok []
  | todo + 1, i =>
    match pixelWord j i with
    | none => .error (.bounds i)
    | some k =>
      match savePixels s j todo (i + 1) with
      | .error e => .error e
      | .ok us => .ok (encodeUnit j.layout j.fmt (readBmp s k) :: us)

/-- Pair nibbles into bytes, the first low; an unpaired last one is not written (R285, 42_stream_io R154). -/
def packNibbles : List Nat → List Byte
  | a :: b :: rest => BitVec.ofNat 8 (a + 16 * b) :: packNibbles rest
  | [_] => []
  | [] => []

/-- The payload bytes of the unit values, little-endian (R285). -/
def payloadOf (j : Job) (us : List Nat) : List Byte :=
  if isNibble j.layout j.fmt then packNibbles us else us.flatMap fun u => leBytes u (unitSize j.layout j.fmt)

/-- HDR0..HDR7 as 32 little-endian bytes (R285). -/
def headerBytes (hdr : Vector Word 8) : List Byte := hdr.toList.flatMap fun w => leBytes w.toNat 4

/-- SAVE's commit (R285): the container at offset 0 of OUT, its length, the nibble packer emptied. -/
def commitSave (s : State) (container : List Byte) (dropped : Bool) : State :=
  { s with
    outBuf := Memory.writeBytes s.outBuf 0 container
    outLen := BitVec.ofNat 32 container.length
    nibw := 0#4
    status := { s.status with nibDrop := s.status.nibDrop || dropped || s.status.nibwPend, nibwPend := false } }

/-- SAVE's staged effect (R285), its checks in the order of 60_exceptions R322. The CAPACITY check before any BMP access is
20_memory R79's; no run meets it, since LOAD made it (log 10). -/
def saveBody (o : Orient) (pad : Bool) (s : State) : Except Stop State :=
  let h := headerOf s.hdr
  if s.status.hdrValid then
    if (s.bmpW.toNat : Int) ≠ h.width then raise (.validation s.bmpW (s.hdr[4].extractLsb' 0 16) 0#32)
    else if (s.bmpH.toNat : Int) ≠ h.height then raise (.validation s.bmpH (s.hdr[4].extractLsb' 16 16) 1#32)
    else
      match tableFormat h.formatId with
      | none => .error (.stuck .headerNotLoadable)
      | some f =>
        let j := jobOf h f o pad
        if s.params.bmpWords < j.pixels then raise .capacity
        else
          match savePixels s j j.pixels 0 with
          | .error e => raise e
          | .ok us =>
            let container := headerBytes s.hdr ++ payloadOf j us
            if s.params.outSize < container.length then raise .capacity
            else .ok (commitSave s container (isNibble j.layout j.fmt && decide (j.pixels % 2 = 1)))
  else raise .state

/-- SAVE (R285). -/
def execSave (o : Orient) (pad : Bool) (s : State) : Host.Outcome State Fault Refusal :=
  runCommand (Instr.save o pad).opcode (saveBody o pad) s

end Sys2Proof.Machine
end

