-- ==== Sys2Proof/Machine/Control.lean ====
section
/-! DEFINITION. The control commands CLRERR and SRESET (47_control.md R310, R311), which run while an error is recorded. -/

namespace Sys2Proof.Machine

/-- CLRERR (R310). -/
def execClrerr (s : State) : Host.Outcome State Fault Refusal := .next (clearErrors s)

/-- SRESET (R311). -/
def execSreset (s : State) : Host.Outcome State Fault Refusal := .next (resetRegisters s)

end Sys2Proof.Machine
end

