-- ==== Sys2Proof/Machine/Stream.lean ====
section
/-! DEFINITION. Byte-order-aware stream I/O and the nibble packer (42_stream_io.md R150 to R157). -/

namespace Sys2Proof.Machine

/-- RDU's staged effect (R152). A reserved width code is ILLEGAL (30_encoding R102, R105). -/
def rduBody (wc : BitVec 3) (be : Bool) (s : State) : Except Stop State :=
  match nbytes wc with
  | none => raise .illegal
  | some n =>
    if inShort s n then raise .io
    else
      let v := orderedValue be (readBytes s .inp s.inPos.toNat n)
      .ok (advanceIn { s with res0 := BitVec.ofNat 32 v, res1 := BitVec.ofNat 32 (v / 2 ^ 32) } n)

/-- RDU (R152). -/
def execRdu (wc : BitVec 3) (be : Bool) (s : State) : Host.Outcome State Fault Refusal :=
  runCommand (Instr.rdu wc be).opcode (rduBody wc be) s

/-- WRU's staged effect (R153). A pending write nibble stays pending. -/
def wruBody (wc : BitVec 3) (be : Bool) (s : State) : Except Stop State :=
  match nbytes wc with
  | none => raise .illegal
  | some n =>
    if outOverflows s n then raise .capacity
    else .ok (appendOut s (orderedBytes be (wruValue n s) n))

/-- WRU (R153). -/
def execWru (wc : BitVec 3) (be : Bool) (s : State) : Host.Outcome State Fault Refusal :=
  runCommand (Instr.wru wc be).opcode (wruBody wc be) s

/-- The nibble packer `nibPut(nib)` (R154): the first nibble of a pair is the low nibble of the byte. -/
def nibPut (nib : BitVec 4) (s : State) : Except Stop State :=
  if s.status.nibwPend then
    if outOverflows s 1 then raise .capacity
    else .ok { appendOut s [nib ++ s.nibw] with status := { s.status with nibwPend := false } }
  else .ok { s with nibw := nib, status := { s.status with nibwPend := true } }

/-- WRNIB's staged effect (R155). -/
def wrnibBody (s : State) : Except Stop State :=
  if s.arg0.toNat > 15 then raise .range else nibPut (s.arg0.setWidth 4) s

/-- WRNIB (R155). -/
def execWrnib (s : State) : Host.Outcome State Fault Refusal := runCommand Instr.wrnib.opcode wrnibBody s

/-- Restart the input stream (R156, R361): also by a host write of IN_POS (10_state R39), with the position written. -/
def restartInAt (pos : Word) (s : State) : State :=
  { s with inPos := pos, nibr := 0#4, status := s.status.restartIn }

/-- Restart the output stream (R156). -/
def restartOut (s : State) : State :=
  { s with outLen := 0#32, nibw := 0#4, status := s.status.restartOut }

/-- STRRST's staged effect (R156): it raises nothing. -/
def strrstBody (inp out : Bool) (s : State) : Except Stop State :=
  let t := if inp then restartInAt 0#32 s else s
  .ok (if out then restartOut t else t)

/-- STRRST (R156). -/
def execStrrst (inp out : Bool) (s : State) : Host.Outcome State Fault Refusal :=
  runCommand (Instr.strrst inp out).opcode (strrstBody inp out) s

end Sys2Proof.Machine
end

