-- ==== Sys2Proof/Machine/Pixel.lean ====
section
/-! DEFINITION. The pixel commands SETFMT, SETFMTID, DECPIX and ENCPIX (43_pixel_codec.md R186 to R196). -/

namespace Sys2Proof.Machine

/-- Make a descriptor the active format (R186, R187). -/
def activate (w : Word) (s : State) : State := { s with fmt := w, status := { s.status with fmtValid := true } }

/-- SETFMT's staged effect (R186). -/
def setfmtBody (s : State) : Except Stop State :=
  match checkFmt s.arg0 with
  | some e => raise e
  | none => .ok (activate s.arg0 s)

/-- SETFMT (R186). -/
def execSetfmt (s : State) : Host.Outcome State Fault Refusal := runCommand Instr.setfmt.opcode setfmtBody s

/-- SETFMTID's staged effect (R187): ids 12 and 13 are the block family, 14 and 15 have no entry. -/
def setfmtidBody (id : BitVec 4) (s : State) : Except Stop State :=
  if id = 12#4 ∨ id = 13#4 then raise .unsupported
  else
    match fmtTable[id.toNat]? with
    | none => raise .config
    | some w => .ok (activate w s)

/-- SETFMTID (R187). -/
def execSetfmtid (id : BitVec 4) (s : State) : Host.Outcome State Fault Refusal :=
  runCommand (Instr.setfmtid id).opcode (setfmtidBody id) s

/-- `nibGet()` (R189): the low nibble of a byte first, its high nibble kept pending. -/
def nibGet (s : State) : Except Stop (BitVec 4 × State) :=
  if s.status.nibrPend then .ok (s.nibr, { s with status := { s.status with nibrPend := false } })
  else if inShort s 1 then raise .io
  else
    let b := readByte s .inp s.inPos.toNat
    .ok (b.extractLsb' 0 4,
      { advanceIn s 1 with nibr := b.extractLsb' 4 4, status := { s.status with nibrPend := true } })

/-- `readUnit(p, n)` at IN_POS, in the descriptor's byte order (R188). -/
def readUnit (s : State) (w : Word) (n : Nat) : Nat := orderedValue (fmtBe w) (readBytes s .inp s.inPos.toNat n)

/-- A pixel was pulled: its colour in RES0, 1 in RES1, END cleared (R195). -/
def deliverPixel (c : Word) (s : State) : State :=
  { s with res0 := c, res1 := 1#32, status := { s.status with endFlag := false } }

/-- The end of an RGBA sequence: END, RES1 = 0, RES0 kept (R195). -/
def reportEnd (s : State) : State := { s with res1 := 0#32, status := { s.status with endFlag := true } }

/-- Pull one unit of whole bytes (R195); short input is an IO error. -/
def decodeBytes (l : Layout) (s : State) : Except Stop State :=
  let n := unitSize l s.fmt
  if inShort s n then raise .io
  else .ok (deliverPixel (decodeUnit l s.fmt (readUnit s s.fmt n)) (advanceIn s n))

/-- Pull one pixel of an LA or HL sequence, which never ends by itself (R194, R195). -/
def decodeLh (l : Layout) (s : State) : Except Stop State :=
  if isNibble l s.fmt then
    match nibGet s with
    | .error e => .error e
    | .ok (v, t) => .ok (deliverPixel (decodeUnit l s.fmt v.toNat) t)
  else decodeBytes l s

/-- DECPIX's staged effect (R195). -/
def decpixBody (s : State) : Except Stop State :=
  if s.status.fmtValid then
    match layoutOf s.fmt with
    | none => .error (.stuck .blockDescriptor)
    | some .rgba => if s.inLen.toNat ≤ s.inPos.toNat then .ok (reportEnd s) else decodeBytes .rgba s
    | some .la => decodeLh .la s
    | some .hl => decodeLh .hl s
  else raise .state

/-- DECPIX (R195). -/
def execDecpix (s : State) : Host.Outcome State Fault Refusal := runCommand Instr.decpix.opcode decpixBody s

/-- Push the colour in ARG0 as one unit of whole bytes or one nibble (R188, R196). -/
def encodeColour (l : Layout) (s : State) : Except Stop State :=
  let v := encodeUnit l s.fmt s.arg0
  let n := unitSize l s.fmt
  if isNibble l s.fmt then nibPut (BitVec.ofNat 4 v) s
  else if outOverflows s n then raise .capacity
  else .ok (appendOut s (orderedBytes (fmtBe s.fmt) v n))

/-- ENCPIX's staged effect (R196). -/
def encpixBody (s : State) : Except Stop State :=
  if s.status.fmtValid then
    match layoutOf s.fmt with
    | none => .error (.stuck .blockDescriptor)
    | some l => encodeColour l s
  else raise .state

/-- ENCPIX (R196). -/
def execEncpix (s : State) : Host.Outcome State Fault Refusal := runCommand Instr.encpix.opcode encpixBody s

end Sys2Proof.Machine
end

