-- ==== Sys2Proof/Machine/Dispatch.lean ====
section
/-! DEFINITION. One arm per command of spec/opcode_table.json (30_encoding.md R104). -/

namespace Sys2Proof.Machine

def exec (i : Instr) (s : State) : Host.Outcome State Fault Refusal :=
  match i with
  | .clrerr => Sys2Proof.Machine.execClrerr s
  | .sreset => Sys2Proof.Machine.execSreset s
  | .strrst inp out => Sys2Proof.Machine.execStrrst inp out s
  | .requant src dst => Sys2Proof.Machine.execRequant src dst s
  | .rdu wc be => Sys2Proof.Machine.execRdu wc be s
  | .wru wc be => Sys2Proof.Machine.execWru wc be s
  | .wrnib => Sys2Proof.Machine.execWrnib s
  | .setfmt => Sys2Proof.Machine.execSetfmt s
  | .setfmtid id => Sys2Proof.Machine.execSetfmtid id s
  | .decpix => Sys2Proof.Machine.execDecpix s
  | .encpix => Sys2Proof.Machine.execEncpix s
  | .taddr => Sys2Proof.Machine.execTaddr s
  | .set3ds o pad => Sys2Proof.Machine.execSet3ds o pad s
  | .t3ds => Sys2Proof.Machine.execT3ds s
  | .load o pad => Sys2Proof.Machine.execLoad o pad s
  | .save o pad => Sys2Proof.Machine.execSave o pad s

end Sys2Proof.Machine
end

