-- ==== Sys2Proof/Machine/HostPort.lean ====
section
/-! DEFINITION. The host interface: the register map, the buffer windows, and issuing a command word (10_state.md R36 to
R53, 20_memory.md R71, R72, R78, 30_encoding.md R106). -/

namespace Sys2Proof.Machine

/-- The registers of the map (10_state R52). -/
inductive Reg where
  | cmd | status | arg0 | arg1 | res0 | res1 | fmt | inLen | inPos | outLen | nibw | nibr | tileK | tileRk | tileStride
  | tileOrigin | tileW | tileH | t3dsCfg | t3dsW | t3dsH | bmpW | bmpH
  | hdr (i : Fin 8)
  | tbl (j : Fin 16)
  | rt (j : Fin 16)
  /-- 0x05C and 0x100..0x0FFFFF: read 0, writes ignored -/
  | reserved
deriving DecidableEq, Repr

/-- The register at an offset that is a multiple of 4 below 0x100000 (10_state R52). -/
def regAt (off : Nat) : Reg :=
  match off with
  | 0x000 => .cmd
  | 0x004 => .status
  | 0x008 => .arg0
  | 0x00C => .arg1
  | 0x010 => .res0
  | 0x014 => .res1
  | 0x018 => .fmt
  | 0x01C => .inLen
  | 0x020 => .inPos
  | 0x024 => .outLen
  | 0x028 => .nibw
  | 0x02C => .nibr
  | 0x030 => .tileK
  | 0x034 => .tileRk
  | 0x038 => .tileStride
  | 0x03C => .tileOrigin
  | 0x040 => .tileW
  | 0x044 => .tileH
  | 0x048 => .t3dsCfg
  | 0x04C => .t3dsW
  | 0x050 => .t3dsH
  | 0x054 => .bmpW
  | 0x058 => .bmpH
  | off =>
    if 0x060 ≤ off ∧ off < 0x080 then .hdr (Fin.ofNat 8 ((off - 0x060) / 4))
    else if 0x080 ≤ off ∧ off < 0x0C0 then .tbl (Fin.ofNat 16 ((off - 0x080) / 4))
    else if 0x0C0 ≤ off ∧ off < 0x100 then .rt (Fin.ofNat 16 ((off - 0x0C0) / 4))
    else .reserved

/-- What a host read of a register returns (10_state R36, R47, R52, R53): CMD and reserved offsets read 0. -/
def readReg (r : Reg) (s : State) : Word :=
  match r with
  | .cmd => 0#32
  | .status => s.status.word
  | .arg0 => s.arg0
  | .arg1 => s.arg1
  | .res0 => s.res0
  | .res1 => s.res1
  | .fmt => s.fmt
  | .inLen => s.inLen
  | .inPos => s.inPos
  | .outLen => s.outLen
  | .nibw => s.nibw.setWidth 32
  | .nibr => s.nibr.setWidth 32
  | .tileK => s.tileK.setWidth 32
  | .tileRk => s.tileRk.setWidth 32
  | .tileStride => s.tileStride
  | .tileOrigin => s.tileOrigin
  | .tileW => tileWView s
  | .tileH => tileHView s
  | .t3dsCfg => s.t3dsCfg.setWidth 32
  | .t3dsW => s.t3dsW
  | .t3dsH => s.t3dsH
  | .bmpW => s.bmpW.setWidth 32
  | .bmpH => s.bmpH.setWidth 32
  | .hdr i => s.hdr[i]
  | .tbl j => s.tbl[j]
  | .rt j => s.rt[j]
  | .reserved => 0#32

/-- A host write of a register other than CMD (10_state R52, R53): a read-only register ignores it, IN_LEN clamps to
IN_SIZE (R38), IN_POS restarts the read state (R39), reserved bits are dropped. -/
def writeReg (r : Reg) (v : Word) (s : State) : State :=
  match r with
  | .arg0 => { s with arg0 := v }
  | .arg1 => { s with arg1 := v }
  | .inLen => { s with inLen := BitVec.ofNat 32 (min v.toNat s.params.inSize) }
  | .inPos => restartInAt v s
  | .tileK => { s with tileK := v.setWidth 5 }
  | .tileRk => { s with tileRk := v.setWidth 5 }
  | .tileStride => { s with tileStride := v }
  | .tileOrigin => { s with tileOrigin := v }
  | .bmpW => { s with bmpW := v.setWidth 16 }
  | .bmpH => { s with bmpH := v.setWidth 16 }
  | .tbl j => { s with tbl := s.tbl.set j v }
  | .rt j => { s with rt := s.rt.set j v }
  | .cmd | .status | .res0 | .res1 | .fmt | .outLen | .nibw | .nibr | .tileW | .tileH | .t3dsCfg | .t3dsW | .t3dsH
  | .hdr _ | .reserved => s

/-- A host read of a window (20_memory R71, R72): little-endian; a byte at or past the buffer's size reads 0 (log 6). -/
def windowRead (s : State) (b : Buffer) (off width : Nat) : Word :=
  BitVec.ofNat 32 (leValue ((List.range width).map fun i =>
    if off + i < bufSize s.params b then readByte s b (off + i) else 0#8))

/-- The bytes of a window write that fall inside the buffer (20_memory R71; log 6). -/
def windowBytes (s : State) (b : Buffer) (off width : Nat) (v : Word) : List Byte :=
  (leBytes v.toNat width).take (bufSize s.params b - off)

/-- A host write of a window (20_memory R71, R72): IN and BMP store, OUT ignores. -/
def windowWrite (s : State) (b : Buffer) (off width : Nat) (v : Word) : State :=
  match b with
  | .inp => { s with inBuf := Memory.writeBytes s.inBuf off (windowBytes s .inp off width v) }
  | .out => s
  | .bmp => { s with bmp := Memory.writeBytes s.bmp off (windowBytes s .bmp off width v) }

/-- Where a host access lands. -/
inductive Target where
  | register (r : Reg)
  | window (b : Buffer) (off : Nat)
  | reject (why : Refusal)
deriving DecidableEq, Repr

/-- A window access is 1, 2 or 4 bytes wide and naturally aligned (20_memory R72). -/
def windowAccessOk (off width : Nat) : Bool := decide ((width = 1 ∨ width = 2 ∨ width = 4) ∧ off % width = 0)

/-- The target of an offset from PXSWZ_BASE (10_state R52, R53; 20_memory R71, R72). -/
def targetAt (off width : Nat) : Target :=
  if off < 0x100000 then
    if width = 4 ∧ off % 4 = 0 then .register (regAt off) else .reject .registerAccess
  else if off < 0x800000 then
    if windowAccessOk off width then
      if off < 0x200000 then .window .inp (off - 0x100000)
      else if off < 0x400000 then .window .out (off - 0x200000)
      else .window .bmp (off - 0x400000)
    else .reject .windowAccess
  else .reject .outsideMap

/-- The target of a host address (20_memory R80; log 7). -/
def targetOf (p : Params) (addr width : Nat) : Target :=
  if addr < p.base then .reject .outsideMap else targetAt (addr - p.base) width

/-- A host write of the word w to CMD issues the command w (10_state R36, 30_encoding R106). A word that is no command is
ILLEGAL, or dropped while an error is recorded. -/
def issue (w : Word) (s : State) : Host.Outcome State Fault Refusal :=
  match decode w with
  | .ok i => exec i s
  | .error _ => .next (illegalCommand (opcodeField w) s)

/-- A host write of register r (10_state R36, R52). -/
def writeTo (r : Reg) (v : Word) (s : State) : Host.Outcome State Fault Refusal :=
  if r = .cmd then issue v s else .next (writeReg r v s)

/-- Serve one host access, or power-on reset. -/
def serve (op : HostOp) (s : State) : Host.Outcome State Fault Refusal :=
  match op with
  | .powerOn => .next (powerOnReset s)
  | .read addr width =>
    match targetOf s.params addr width with
    | .register r => .next { s with hostData := some (readReg r s) }
    | .window b off => .next { s with hostData := some (windowRead s b off width) }
    | .reject why => .refused why
  | .write addr width v =>
    match targetOf s.params addr width with
    | .register r => writeTo r v s
    | .window b off => .next (windowWrite s b off width v)
    | .reject why => .refused why

/-- The host access that issues the command word w: a 32-bit write of CMD, at offset 0 (10_state R36, R52). -/
def cmdWrite (p : Params) (w : Word) : HostOp := .write p.base 4 w

end Sys2Proof.Machine
end

