-- ==== Sys2Proof/Machine/Step.lean ====
section
/-! DEFINITION. One step: serve the host's next access (00_scope.md R9, 20_memory.md R82). -/

namespace Sys2Proof.Machine

/-- Serve the first pending host access; with none pending the block waits, its state unchanged (70_reset R352,
60_exceptions R334; log 1). -/
def step (s : State) : Host.Outcome State Fault Refusal :=
  match s.pending with
  | [] => .next s
  | op :: rest => serve op { s with pending := rest }

/-- The state with the host's next access being the write of the command word `w` to CMD (log 1). -/
def State.withFetchWord (s : State) (nbits w : Nat) : State :=
  { s with pending := cmdWrite s.params (BitVec.ofNat 32 (w % 2 ^ nbits)) :: s.pending }

end Sys2Proof.Machine
end

