-- ==== Sys2Proof/Safety.lean ====
section
/-! DEFINITION. What the states a run reaches look like, and what a safe step is, in the terms the statements use. -/

namespace Sys2Proof.Machine

/-- The header words a successful LOAD latches (46_container R284): a table id, positive dimensions that fit BMP. -/
abbrev HeaderLoadable (p : Params) (hdr : Vector Word 8) : Prop :=
  (0 ≤ (headerOf hdr).formatId ∧ (headerOf hdr).formatId ≤ 11) ∧ 0 < (headerOf hdr).width ∧ 0 < (headerOf hdr).height ∧
    (headerOf hdr).width.toNat * (headerOf hdr).height.toNat ≤ p.bmpWords

/-- A buffer's memory: in its canonical form and within the buffer's size (20_memory R70). -/
abbrev MemoryOk (m : Memory) (size : Nat) : Prop := m.wf ∧ ∀ c ∈ m, c.1 < size

/-- The invariant of PXSWZ: what holds after reset and after every step. -/
structure StateInv (s : State) : Prop where
  /-- the parameters meet 00_scope R10 -/
  params : s.params.Ok
  /-- IN holds bytes below IN_SIZE only (20_memory R70) -/
  inBuf : MemoryOk s.inBuf s.params.inSize
  /-- OUT holds bytes below OUT_SIZE only (20_memory R70) -/
  outBuf : MemoryOk s.outBuf s.params.outSize
  /-- BMP holds bytes below 4*BMP_WORDS only (20_memory R70) -/
  bmp : MemoryOk s.bmp (4 * s.params.bmpWords)
  /-- IN_LEN is clamped to IN_SIZE (10_state R38) -/
  inLen : s.inLen.toNat ≤ s.params.inSize
  /-- OUT_LEN <= OUT_SIZE (10_state R40) -/
  outLen : s.outLen.toNat ≤ s.params.outSize
  /-- FMT_VALID: "FMT holds a descriptor that passed validation" (10_state R25, R26) -/
  fmt : s.status.fmtValid = true → checkFmt s.fmt = none
  /-- T3DS_VALID: SET3DS has computed the effective dimensions (10_state R27, R49) -/
  t3ds : s.status.t3dsValid = true →
    (1 ≤ s.t3dsW.toNat ∧ s.t3dsW.toNat ≤ 65536) ∧ (1 ≤ s.t3dsH.toNat ∧ s.t3dsH.toNat ≤ 65536)
  /-- HDR_VALID: "HDR0..HDR7 hold a header latched by LOAD" (10_state R25, R28) -/
  hdr : s.status.hdrValid = true → HeaderLoadable s.params s.hdr
  /-- SHORT is written by LOAD, which sets HDR_VALID (10_state R33) -/
  short : s.status.short = true → s.status.hdrValid = true
  /-- DROPPED is set only while an error is recorded, and cleared with it (10_state R34) -/
  dropped : s.status.dropped = true → s.status.err ≠ .noError
  /-- ERR_OP is 0 when no error is recorded (10_state R35) -/
  errOp : s.status.err = .noError → s.status.errOp = 0#8

/-- A safe outcome: a next state that meets the invariant, or the refusal of a host access the spec gives no step
(10_state R53, 20_memory R72). No fault. -/
def SafeOutcome : Host.Outcome State Fault Refusal → Prop
  | .next t => StateInv t
  | .fault _ => False
  | .refused r => r = .registerAccess ∨ r = .windowAccess ∨ r = .outsideMap

end Sys2Proof.Machine
end

