-- ==== Sys2Proof/Certificates/Slice0/Obligations.lean ====
section
/-! DEFINITION. The statements for the provers. A successful command's statement gives its next state as a record update of
the state before it, so that everything not named there is unchanged. -/

open Sys2Proof Sys2Proof.Machine

/-! ### Words the statements use, written from the spec and not from the model -/

namespace Sys2Proof.Claims

/-- One row of the opcode map: match, mask, and whether the row's format is S (30_encoding R101, R104). -/
structure OpcodeRow where
  matchWord : Word
  mask : Word
  sized : Bool
deriving DecidableEq, Repr

/-- The opcode map of 30_encoding R104. -/
def opcodeMap : List OpcodeRow :=
  [⟨0x00000001, 0xFFFFFFFF, false⟩, ⟨0x00000002, 0xFFFFFFFF, false⟩, ⟨0x00000003, 0xFFFFFCFF, false⟩,
   ⟨0x00000010, 0xFFF000FF, false⟩, ⟨0x00000020, 0xFFFFF0FF, true⟩, ⟨0x00000021, 0xFFFFF0FF, true⟩,
   ⟨0x00000022, 0xFFFFFFFF, false⟩, ⟨0x00000030, 0xFFFFFFFF, false⟩, ⟨0x00000031, 0xFFFFF0FF, false⟩,
   ⟨0x00000032, 0xFFFFFFFF, false⟩, ⟨0x00000033, 0xFFFFFFFF, false⟩, ⟨0x00000040, 0xFFFFFFFF, false⟩,
   ⟨0x00000041, 0xFFFFF8FF, false⟩, ⟨0x00000042, 0xFFFFFFFF, false⟩, ⟨0x00000050, 0xFFFFF8FF, false⟩,
   ⟨0x00000051, 0xFFFFF8FF, false⟩]

/-- A word the opcode map accepts: it selects a row, and a row of format S refuses the width codes 5, 6, 7 (R104, R105). -/
def Accepted (w : Word) : Prop :=
  ∃ r ∈ opcodeMap, w &&& r.mask = r.matchWord ∧ (r.sized = true → w.toNat / 256 % 8 < 5)

/-- The errors a command can raise ("raised by" of 60_exceptions R321; a width code 5 to 7 is ILLEGAL, R102). -/
def mayRaise : Instr → List ErrCode
  | .clrerr => []
  | .sreset => []
  | .strrst _ _ => []
  | .requant _ _ => [.config, .range]
  | .rdu _ _ => [.illegal, .io]
  | .wru _ _ => [.illegal, .capacity]
  | .wrnib => [.range, .capacity]
  | .setfmt => [.config, .unsupported]
  | .setfmtid _ => [.unsupported, .config]
  | .decpix => [.state, .io]
  | .encpix => [.state, .capacity]
  | .taddr => [.config]
  | .set3ds _ _ => [.config]
  | .t3ds => [.state, .config]
  | .load _ _ => [.io, .unsupported, .config, .capacity, .bounds]
  | .save _ _ => [.state, .validation, .bounds, .capacity]

/-- The number of each error code (60_exceptions R321). -/
def errorNumber : ErrCode → Nat
  | .noError => 0
  | .illegal => 1
  | .config => 2
  | .validation => 3
  | .io => 4
  | .state => 5
  | .range => 6
  | .capacity => 7
  | .bounds => 8
  | .unsupported => 9

/-- The width codes and their widths in bytes (30_encoding R102). -/
def widths : List (BitVec 3 × Nat) := [(0, 1), (1, 2), (2, 3), (3, 4), (4, 8)]

/-- The n bytes of IN at offset a as one number: byte i weighs 2^(8i) little-endian, 2^(8(n-1-i)) big-endian (00_scope R13). -/
def streamValue (s : State) (be : Bool) (a n : Nat) : Nat :=
  ∑ i ∈ Finset.range n, (readByte s .inp (a + i)).toNat * 2 ^ (8 * if be then n - 1 - i else i)

/-- Byte i of an n-byte value in the selected order (00_scope R13, 20_memory R74). -/
def streamByte (be : Bool) (v n i : Nat) : Byte := BitVec.ofNat 8 (v / 2 ^ (8 * if be then n - 1 - i else i))

/-- Outside the n bytes at offset a, OUT reads in t as it reads in s. -/
def OutKept (s t : State) (a n : Nat) : Prop := ∀ c, c < a ∨ a + n ≤ c → readByte t .out c = readByte s .out c

/-- A descriptor word from its fields (10_state R37), little-endian and unswapped (43_pixel_codec R185). -/
def descriptor (family d0 d1 d2 d3 : Nat) : Word :=
  BitVec.ofNat 8 family ++ BitVec.ofNat 6 d3 ++ BitVec.ofNat 6 d2 ++ BitVec.ofNat 6 d1 ++ BitVec.ofNat 6 d0

/-- The format-id table by its depth columns (43_pixel_codec R185). -/
def formatIds : List Word :=
  [descriptor 0 8 8 8 8, descriptor 0 8 8 8 0, descriptor 0 5 5 5 1, descriptor 0 5 6 5 0, descriptor 0 4 4 4 4,
   descriptor 1 8 0 0 8, descriptor 2 8 0 0 8, descriptor 1 8 0 0 0, descriptor 1 0 0 0 8, descriptor 1 4 0 0 4,
   descriptor 1 4 0 0 0, descriptor 1 0 0 0 4]

/-- Bits `lo` and up of a word, `n` of them, as a number (00_scope R11). -/
def bitsOf (w : Word) (lo n : Nat) : Nat := w.toNat / 2 ^ lo % 2 ^ n

/-- The conditions of `checkFmt` on a word (43_pixel_codec R181), as one proposition. -/
def ValidDescriptor (w : Word) : Prop :=
  let d0 := bitsOf w 0 6
  let d1 := bitsOf w 6 6
  let d2 := bitsOf w 12 6
  let d3 := bitsOf w 18 6
  let family := bitsOf w 24 2
  bitsOf w 29 3 = 0 ∧ bitsOf w 28 1 = 0 ∧
    ((family = 0 ∧ 8 ≤ d0 + d1 + d2 + d3 ∧ d0 + d1 + d2 + d3 ≤ 32 ∧ d0 + d1 + d2 ≠ 0) ∨
      ((family = 1 ∨ family = 2) ∧ d1 = 0 ∧ d2 = 0 ∧ bitsOf w 27 1 = 0 ∧
        (d0 + d3 = 4 ∨ d0 + d3 = 8 ∨ d0 + d3 = 16) ∧ ¬(d0 < 4 ∧ d3 < 4)))

/-- The depth fields of a descriptor: D0 in bits 5:0, D1 in 11:6, D2 in 17:12, D3 in 23:18 (10_state R37). -/
def depth (w : Word) (k : Nat) : Nat := bitsOf w (6 * k) 6

/-- The bits T of a unit: the sum of the depths the family uses (43_pixel_codec R180). -/
def unitBits (l : Layout) (w : Word) : Nat :=
  match l with
  | .rgba => depth w 0 + depth w 1 + depth w 2 + depth w 3
  | .la => depth w 0 + depth w 3
  | .hl => depth w 0 + depth w 3

/-- Every channel depth of a descriptor is at most 8 (43_pixel_codec R197). -/
def ShallowDepths (w : Word) : Prop := depth w 0 ≤ 8 ∧ depth w 1 ≤ 8 ∧ depth w 2 ≤ 8 ∧ depth w 3 ≤ 8

/-- What an 8-bit channel becomes through a depth d: itself requantized down and up, or `absent` when d = 0 (R197). -/
def throughDepth (absent c d : Nat) : Nat := if d = 0 then absent else requant (requant c 8 d) d 8

/-- A channel c that comes back as c' through a depth d: requantized, and exact from depth 8 on (43_pixel_codec R197). -/
def Through (absent c c' d : Nat) : Prop := c' = throughDepth absent c d ∧ (8 ≤ d → c' = c)

/-- The field of depth d at bit position lo of a unit value, brought to 8 bits; `absent` when d = 0 (43_pixel_codec R190,
R192). -/
def unitField (absent v lo d : Nat) : Nat := if d = 0 then absent else requant (v / 2 ^ lo % 2 ^ d) d 8

/-- The canonical colour with these channels: A in bits 31:24, R in 23:16, G in 15:8, B in 7:0 (00_scope R16). -/
def IsColour (c : Word) (a r g b : Nat) : Prop :=
  bitsOf c 24 8 = a ∧ bitsOf c 16 8 = r ∧ bitsOf c 8 8 = g ∧ bitsOf c 0 8 = b

/-- The coordinate pair of an entry register: dx in bits 15:0, dy in bits 31:16 (10_state R44 to R46). -/
def entryOf (w : Word) : Nat × Nat := (bitsOf w 0 16, bitsOf w 16 16)

/-- The first k of sixteen entry registers, in their order (10_state R45, R46). -/
def entriesOf (regs : Vector Word 16) (k : Nat) : List (Nat × Nat) :=
  (List.finRange 16).filterMap fun j => if j.val < k then some (entryOf regs[j]) else none

/-- `addr(n)`, the register form of the address function (44_tile_engine R242). -/
def registerAddress (s : State) (n : Nat) : Nat × Nat :=
  addrWith (entriesOf s.tbl s.tileK.toNat) (entriesOf s.rt s.tileRk.toNat) (entryOf s.tileOrigin) s.tileStride.toNat n

/-- The base address of index n in an image of this stride under the 3DS table: tiles of 8 x 8 pixels, the even bits of n
giving x and the odd ones y (45_tile_3ds R264). -/
def base3ds (stride n : Nat) : Nat × Nat :=
  let perRow := (stride + 7) / 8
  (8 * (n / 64 % perRow) + (n % 2 + 2 * (n / 4 % 2) + 4 * (n / 16 % 2)),
   8 * (n / 64 / perRow) + (n / 2 % 2 + 2 * (n / 8 % 2) + 4 * (n / 32 % 2)))

/-- The orientation of a base address by its code (45_tile_3ds R263). -/
def orientBy (code : Nat) (p : Nat × Nat) (he : Nat) : Int × Int :=
  if code = 0 then ((p.1 : Int), (p.2 : Int))
  else if code = 1 then ((p.2 : Int), (p.1 : Int))
  else if code = 2 then ((p.2 : Int), (he : Int) - 1 - p.1)
  else ((p.1 : Int), (he : Int) - 1 - p.2)

/-- A dimension under PAD: padded, or as it is (45_tile_3ds R265, 46_container R284). -/
def effectiveDim (pad : Bool) (d : Nat) : Nat := if pad then padDim d else d

/-- The canonical Z-order table of 2m entries: (1,0), (0,1), (2,0), (0,2), ... (44_tile_engine R244). -/
def zOrder (m : Nat) : List (Nat × Nat) := (List.range m).flatMap fun i => [(2 ^ i, 0), (0, 2 ^ i)]

/-- Every second bit of n from bit `start`, gathered: `sum_i n[2i + start] * 2^i` for i < m (44_tile_engine R244). -/
def gather (n start m : Nat) : Nat := ∑ i ∈ Finset.range m, if n.testBit (2 * i + start) then 2 ^ i else 0

/-- A regular table (44_tile_engine R245): the x entries 1, 2, ..., W/2 and the y entries 1, 2, ..., H/2, once each, in any
order, with W = 2^a and H = 2^b. -/
def Regular (tbl : List (Nat × Nat)) (a b : Nat) : Prop :=
  tbl.Perm (((List.range a).map fun i => (2 ^ i, 0)) ++ (List.range b).map fun i => (0, 2 ^ i))

/-- `sext_n(v)`: the n-bit value v read as two's complement (00_scope R12). -/
def signed (v n : Nat) : Int := if v < 2 ^ (n - 1) then (v : Int) else (v : Int) - 2 ^ n

/-- BMP word k from its four bytes, the lowest first (20_memory R70, 46_container R282). -/
def bmpWord (s : State) (k : Nat) : Word :=
  BitVec.ofNat 32 (∑ i ∈ Finset.range 4, (readByte s .bmp (4 * k + i)).toNat * 2 ^ (8 * i))

/-- The payload bytes a container of N pixels needs: nibbles two to a byte, else one unit a pixel (46_container R283). -/
def payloadNeed (l : Layout) (w : Word) (pixels : Nat) : Nat :=
  if isNibble l w then (pixels + 1) / 2 else pixels * unitSize l w

/-- Payload unit i of the container in IN (46_container R283): the low nibble of a byte first, or the little-endian unit. -/
def payloadUnit (s : State) (l : Layout) (w : Word) (i : Nat) : Nat :=
  if isNibble l w then (readByte s .inp (32 + i / 2)).toNat / 16 ^ (i % 2) % 16
  else streamValue s false (32 + i * unitSize l w) (unitSize l w)

/-- Pixel i of a job has coordinates (x, y) inside the bitmap (46_container R282, R284). -/
def PixelAt (o : Orient) (we he wd ht i x y : Nat) : Prop :=
  addr3ds i o we he = ((x : Int), (y : Int)) ∧ x < wd ∧ y < ht

/-- The host's next access is the write of the command word w to CMD. -/
def Issues (s : State) (w : Word) (rest : List HostOp) : Prop := s.pending = cmdWrite s.params w :: rest

/-- The host's next access is a 32-bit write of v at a register offset. -/
def WritesReg (s : State) (off : Nat) (v : Word) (rest : List HostOp) : Prop :=
  s.pending = .write (s.params.base + off) 4 v :: rest

/-- The host's next access is a 32-bit read of a register offset. -/
def ReadsReg (s : State) (off : Nat) (rest : List HostOp) : Prop := s.pending = .read (s.params.base + off) 4 :: rest

/-- The register offsets marked R in 10_state R52, and the reserved ones below 0x100. -/
def readOnlyOffsets : List Nat :=
  [0x004, 0x010, 0x014, 0x018, 0x024, 0x028, 0x02C, 0x040, 0x044, 0x048, 0x04C, 0x050, 0x05C,
   0x060, 0x064, 0x068, 0x06C, 0x070, 0x074, 0x078, 0x07C]

/-- The host offset at which a buffer's window starts (20_memory R71). -/
def windowBase : Buffer → Nat
  | .inp => 0x100000
  | .out => 0x200000
  | .bmp => 0x400000

/-- The size of a buffer in bytes (20_memory R70). -/
def bufferSize (p : Params) : Buffer → Nat
  | .inp => p.inSize
  | .out => p.outSize
  | .bmp => 4 * p.bmpWords

/-- The size of a buffer's window (10_state R52). -/
def windowSpan : Buffer → Nat
  | .inp => 0x100000
  | .out => 0x200000
  | .bmp => 0x400000

/-- An access of `width` bytes at offset `off` of a window that 20_memory R72 allows. -/
def WindowAccess (b : Buffer) (off width : Nat) : Prop :=
  (width = 1 ∨ width = 2 ∨ width = 4) ∧ off % width = 0 ∧ off < windowSpan b

end Sys2Proof.Claims

open Sys2Proof.Claims

/-! ### Encoding (30_encoding) -/

/-- Every well-formed command decodes from its own word: no bit of an encoding is dropped (R100, R101, R104). -/
def Obligations.DecodeOfEncodedCommand : Prop := ∀ i : Instr, i.wf = true → decode (encode i) = .ok i

/-- A word that decodes is the word of the command it decodes to, and that command is well-formed: each word has one
meaning (R101, R104, R105). -/
def Obligations.EncodeOfDecodedWord : Prop :=
  ∀ (w : Word) (i : Instr), decode w = .ok i → i.wf = true ∧ encode i = w

/-- The decoder accepts exactly the words of the opcode map, and the command it gives has the opcode of the row the word
selects (R104, R105). -/
def Obligations.DecoderAcceptsTheOpcodeMap : Prop :=
  (∀ w : Word, (∃ i, decode w = .ok i) ↔ Accepted w) ∧
    ∀ (w : Word) (i : Instr) (r : OpcodeRow), decode w = .ok i → r ∈ opcodeMap → w &&& r.mask = r.matchWord →
      i.opcode.setWidth 32 = r.matchWord

/-- Words written out from the spec's encodings (R101, R110 and the examples of R134, R152, R153, R156, R187, R265). -/
def Obligations.SpecWordsDecode : Prop :=
  decode 0x00000001#32 = .ok .clrerr ∧ decode 0x00000203#32 = .ok (.strrst false true) ∧
    decode 0x00020510#32 = .ok (.requant 5#6 8#6) ∧ decode 0x00000920#32 = .ok (.rdu 1#3 true) ∧
    decode 0x00000221#32 = .ok (.wru 2#3 false) ∧ decode 0x00000231#32 = .ok (.setfmtid 2#4) ∧
    decode 0x00000641#32 = .ok (.set3ds .rotateCcw true) ∧ decode 0x00000150#32 = .ok (.load .transpose false) ∧
    decode 0x00000050#32 = .ok (.load .identity false) ∧ decode 0x00000351#32 = .ok (.save .flipVertical false)

/-! ### Issuing a command (30_encoding R106, 60_exceptions R324) -/

/-- A CMD write whose word decodes runs exactly that command, on the state with the access taken off the queue. -/
def Obligations.StepRunsTheDecodedCommand : Prop :=
  ∀ (s : State) (w : Word) (i : Instr) (rest : List HostOp), Issues s w rest → decode w = .ok i →
    step s = exec i { s with pending := rest }

/-- A word the opcode map does not accept raises ILLEGAL and changes nothing else (R105, R106, R323). -/
def Obligations.IllegalWordRaisesIllegal : Prop :=
  ∀ (s : State) (w : Word) (rest : List HostOp), Issues s w rest → s.status.err = .noError → ¬ Accepted w →
    step s = .next { s with
      pending := rest, status := { s.status with err := .illegal, errOp := w.extractLsb' 0 8 } }

/-- While an error is recorded every word but exactly CLRERR's and SRESET's, legal or not, only sets DROPPED (R324). -/
def Obligations.StickyErrorDropsEveryOtherWord : Prop :=
  ∀ (s : State) (w : Word) (rest : List HostOp), Issues s w rest → s.status.err ≠ .noError →
    w ≠ 0x00000001#32 → w ≠ 0x00000002#32 →
    step s = .next { s with pending := rest, status := { s.status with dropped := true } }

/-- With no host access pending the block waits, its state unchanged (60_exceptions R334; the queue is the model's, log 1). -/
def Obligations.IdleStepKeepsTheState : Prop := ∀ s : State, s.pending = [] → step s = .next s

/-! ### Errors (00_scope R14, 60_exceptions) -/

/-- A command that ends with an error recorded has discarded every staged write: only ERR, ERR_OP and, for VALIDATION and
BOUNDS alone, RES0 and RES1 changed (R14, R323, R325). -/
def Obligations.FailedCommandChangesOnlyErrorState : Prop :=
  ∀ (i : Instr) (s t : State), s.status.err = .noError → exec i s = .next t → t.status.err ≠ .noError →
    t = { s with
        status := { s.status with err := t.status.err, errOp := i.opcode }, res0 := t.res0, res1 := t.res1 } ∧
      (t.status.err ≠ .validation → t.status.err ≠ .bounds → t.res0 = s.res0 ∧ t.res1 = s.res1)

/-- A command raises only the errors R321 lists for it. -/
def Obligations.CommandsRaiseOnlyTheirErrors : Prop :=
  ∀ (i : Instr) (s t : State), s.status.err = .noError → exec i s = .next t → t.status.err ≠ .noError →
    t.status.err ∈ mayRaise i

/-- STATUS read as a word has its fields at the bits of R25, its reserved bits 0, and in the field ERR the
number R321 gives the recorded error. -/
def Obligations.StatusWordHasTheSpecLayout : Prop :=
  ∀ f : Status,
    (f.word.getLsbD 0 = f.fmtValid ∧ f.word.getLsbD 1 = f.t3dsValid ∧ f.word.getLsbD 2 = f.hdrValid ∧
      f.word.getLsbD 3 = f.endFlag ∧ f.word.getLsbD 4 = f.nibwPend ∧ f.word.getLsbD 5 = f.nibrPend ∧
      f.word.getLsbD 6 = f.nibDrop ∧ f.word.getLsbD 7 = f.short ∧ f.word.getLsbD 8 = f.dropped) ∧
    bitsOf f.word 9 7 = 0 ∧ bitsOf f.word 16 8 = errorNumber f.err ∧
    f.word.extractLsb' 24 8 = f.errOp

/-! ### Control and reset (47_control, 70_reset) -/

/-- CLRERR clears ERR, ERR_OP, DROPPED and NIB_DROP and nothing else, also while an error is recorded (R310). -/
def Obligations.ClrerrAcknowledgesTheError : Prop :=
  ∀ s : State, exec .clrerr s = .next { s with
    status := { s.status with err := .noError, errOp := 0#8, dropped := false, nibDrop := false } }

/-- SRESET leaves every register of the map reading 0 and keeps the three buffers, also while an error is recorded (R311,
R54, R350). -/
def Obligations.SresetZeroesEveryRegister : Prop :=
  ∀ s : State, ∃ t, exec .sreset s = .next t ∧ (∀ r : Reg, readReg r t = 0#32) ∧
    t.inBuf = s.inBuf ∧ t.outBuf = s.outBuf ∧ t.bmp = s.bmp ∧ t.params = s.params ∧ t.powerOns = s.powerOns ∧
    t.pending = s.pending ∧ t.hostData = s.hostData

/-- Power-on reset: every register of the map reads 0, in `State.reset` and after a power-on at any time, and every buffer
byte is unspecified, a free value of a new draw (R54, R350, R351; the draw is the model's, log 3 and 5). -/
def Obligations.PowerOnResetsRegistersAndBuffers : Prop :=
  (∀ r : Reg, readReg r State.reset = 0#32) ∧ (∀ b a, readByte State.reset b a = Config.powerOnByte 0 b a) ∧
  ∀ (s : State) (rest : List HostOp), s.pending = .powerOn :: rest →
    ∃ t, step s = .next t ∧ (∀ r : Reg, readReg r t = 0#32) ∧
      (∀ b a, readByte t b a = Config.powerOnByte (s.powerOns + 1) b a) ∧ t.params = s.params ∧ t.pending = rest

/-! ### Requantizer (41_requantizer) -/

/-- REQUANT: RES0 <- requant(ARG0, FROM, TO) when the depths are at most 32 and the value fits; CONFIG for a depth above 32,
else RANGE for a value that does not fit (R134, R322). -/
def Obligations.RequantWritesTheResult : Prop :=
  ∀ (s : State) (f t : BitVec 6), s.status.err = .noError →
    (f.toNat ≤ 32 → t.toNat ≤ 32 → s.arg0.toNat < 2 ^ f.toNat →
      exec (.requant f t) s = .next { s with res0 := BitVec.ofNat 32 (requant s.arg0.toNat f.toNat t.toNat) }) ∧
    (32 < f.toNat ∨ 32 < t.toNat →
      exec (.requant f t) s = .next { s with status := { s.status with err := .config, errOp := 0x10#8 } }) ∧
    (f.toNat ≤ 32 → t.toNat ≤ 32 → 2 ^ f.toNat ≤ s.arg0.toNat →
      exec (.requant f t) s = .next { s with status := { s.status with err := .range, errOp := 0x10#8 } })

/-- Upscaling is bit replication: bit t-1-j of the result is bit j of the endless repetition of v's f-bit pattern, from the
most significant end. The loop stops after the least k for which f divides t + k, with R = 2^(t+k) - 1 and d = 2^k, all its
values below 2^(t+f), R / M is the sum of the powers 2^(f*i), and any such k gives the same result (R131). Downscaling keeps
the top t bits (R132). -/
def Obligations.RequantClosedForms : Prop :=
  (∀ v f t : Nat, 0 < f → f < t → v < 2 ^ f →
    requant v f t < 2 ^ t ∧ (∀ j, j < t → (requant v f t).testBit (t - 1 - j) = v.testBit (f - 1 - j % f)) ∧
    (∃ k, k < f ∧ f ∣ t + k ∧ (∀ j, j < k → ¬ f ∣ t + j) ∧
      doublingSearch (2 ^ f - 1) f (2 ^ t - 1) 1 = (2 ^ (t + k) - 1, 2 ^ k) ∧
      2 ^ (t + k) - 1 < 2 ^ (t + f) ∧ v * ((2 ^ (t + k) - 1) / (2 ^ f - 1)) < 2 ^ (t + f)) ∧
    (∀ k, f ∣ t + k →
      (2 ^ (t + k) - 1) / (2 ^ f - 1) = ∑ i ∈ Finset.range ((t + k) / f), 2 ^ (f * i) ∧
      requant v f t = v * ((2 ^ (t + k) - 1) / (2 ^ f - 1)) / 2 ^ k)) ∧
  (∀ v f t : Nat, 0 < t → t < f → requant v f t = v >>> (f - t))

/-- The properties of R133: identity, zero, full range, absent channels, the 8-bit round trip and its example, and
monotonicity. -/
def Obligations.RequantProperties : Prop :=
  (∀ n v, requant v n n = v) ∧ (∀ f t, requant 0 f t = 0) ∧
    (∀ f t, (1 ≤ f ∧ 1 ≤ t) ∨ f = t → requant (2 ^ f - 1) f t = 2 ^ t - 1) ∧
    (∀ v f t, (f = 0 ∧ t ≠ 0) ∨ (f ≠ 0 ∧ t = 0) → requant v f t = 0) ∧
    (∀ c d, c < 256 → 1 ≤ d → d ≤ 8 → requant (requant c 8 d) d 8 = requant (c >>> (8 - d)) d 8) ∧
    (requant (requant 0x07 8 5) 5 8 = 0x00 ∧ requant 0x01 5 8 = 0x08) ∧
    (∀ v₁ v₂ f t, v₁ ≤ v₂ → v₂ < 2 ^ f → requant v₁ f t ≤ requant v₂ f t)

/-! ### Streams (42_stream_io) -/

/-- RDU: the value of n bytes at IN_POS in the selected order, its low word in RES0 and its high word in RES1, IN_POS past
them; IO when fewer than n bytes remain before IN_LEN (R152, R74, R79). -/
def Obligations.RduReadsTheStreamValue : Prop :=
  ∀ (s : State) (wc : BitVec 3) (be : Bool) (n : Nat), s.status.err = .noError → (wc, n) ∈ widths →
    (s.inPos.toNat + n ≤ s.inLen.toNat →
      exec (.rdu wc be) s = .next { s with
        res0 := BitVec.ofNat 32 (streamValue s be s.inPos.toNat n)
        res1 := if n = 8 then BitVec.ofNat 32 (streamValue s be s.inPos.toNat n / 2 ^ 32) else 0#32
        inPos := BitVec.ofNat 32 (s.inPos.toNat + n) }) ∧
    (s.inLen.toNat < s.inPos.toNat + n →
      exec (.rdu wc be) s = .next { s with status := { s.status with err := .io, errOp := 0x20#8 } })

/-- WRU: the n bytes of the value at OUT_LEN in the selected order, every other byte of OUT kept, OUT_LEN past them (R153). -/
def Obligations.WruAppendsTheValue : Prop :=
  ∀ (s : State) (wc : BitVec 3) (be : Bool) (n : Nat), s.status.err = .noError → (wc, n) ∈ widths →
    s.outLen.toNat + n ≤ s.params.outSize →
    ∃ t, exec (.wru wc be) s = .next t ∧
      t = { s with outBuf := t.outBuf, outLen := BitVec.ofNat 32 (s.outLen.toNat + n) } ∧
      (∀ i, i < n → readByte t .out (s.outLen.toNat + i) =
        streamByte be (s.arg0.toNat + 2 ^ 32 * s.arg1.toNat) n i) ∧
      OutKept s t s.outLen.toNat n

/-- A write that would pass OUT_SIZE raises CAPACITY and writes nothing, the nibble packer kept: WRU, the second nibble of
WRNIB, ENCPIX of whole bytes and of a second nibble, and SAVE, whose other checks come first (R79, R153, R155, R196, R285,
R322). -/
def Obligations.FullOutputRaisesCapacity : Prop :=
  (∀ (s : State) (wc : BitVec 3) (be : Bool) (n : Nat), s.status.err = .noError → (wc, n) ∈ widths →
    s.params.outSize < s.outLen.toNat + n →
    exec (.wru wc be) s = .next { s with status := { s.status with err := .capacity, errOp := 0x21#8 } }) ∧
  (∀ s : State, s.status.err = .noError → s.arg0.toNat ≤ 15 → s.status.nibwPend = true →
    s.params.outSize < s.outLen.toNat + 1 →
    exec .wrnib s = .next { s with status := { s.status with err := .capacity, errOp := 0x22#8 } }) ∧
  (∀ (s : State) (l : Layout), s.status.err = .noError → s.status.fmtValid = true → layoutOf s.fmt = some l →
    isNibble l s.fmt = false → s.params.outSize < s.outLen.toNat + unitSize l s.fmt →
    exec .encpix s = .next { s with status := { s.status with err := .capacity, errOp := 0x33#8 } }) ∧
  (∀ (s : State) (l : Layout), s.status.err = .noError → s.status.fmtValid = true → layoutOf s.fmt = some l →
    isNibble l s.fmt = true → s.status.nibwPend = true → s.params.outSize < s.outLen.toNat + 1 →
    exec .encpix s = .next { s with status := { s.status with err := .capacity, errOp := 0x33#8 } }) ∧
  (∀ (s : State) (o : Orient) (pad : Bool) (l : Layout) (w : Word) (wd ht : Nat),
    s.status.err = .noError → s.status.hdrValid = true → (headerOf s.hdr).width = wd → (headerOf s.hdr).height = ht →
    s.bmpW.toNat = wd → s.bmpH.toNat = ht → tableFormat (headerOf s.hdr).formatId = some (l, w) →
    wd * ht ≤ s.params.bmpWords →
    (∀ i, i < wd * ht → ∃ x y, PixelAt o (effectiveDim pad wd) (effectiveDim pad ht) wd ht i x y) →
    s.params.outSize < 32 + (if isNibble l w then wd * ht / 2 else wd * ht * unitSize l w) →
    exec (.save o pad) s = .next { s with status := { s.status with err := .capacity, errOp := 0x51#8 } })

/-- WRNIB: a first nibble is kept in NIBW; a second completes the byte `first + 16*second` at OUT_LEN; a value above 15
raises RANGE (R154, R155). -/
def Obligations.WrnibPacksPairsOfNibbles : Prop :=
  (∀ s : State, s.status.err = .noError → s.arg0.toNat ≤ 15 → s.status.nibwPend = false →
    exec .wrnib s = .next { s with
      nibw := BitVec.ofNat 4 s.arg0.toNat, status := { s.status with nibwPend := true } }) ∧
  (∀ s : State, s.status.err = .noError → s.arg0.toNat ≤ 15 → s.status.nibwPend = true →
    s.outLen.toNat + 1 ≤ s.params.outSize →
    ∃ t, exec .wrnib s = .next t ∧
      t = { s with
        outBuf := t.outBuf, outLen := BitVec.ofNat 32 (s.outLen.toNat + 1)
        status := { s.status with nibwPend := false } } ∧
      (readByte t .out s.outLen.toNat).toNat = s.nibw.toNat + 16 * s.arg0.toNat ∧
      OutKept s t s.outLen.toNat 1) ∧
  (∀ s : State, s.status.err = .noError → 15 < s.arg0.toNat →
    exec .wrnib s = .next { s with status := { s.status with err := .range, errOp := 0x22#8 } })

/-- STRRST: each selected stream restarts, a pending write nibble dropped and flagged; with neither selected nothing changes
(R156). -/
def Obligations.StrrstRestartsTheSelectedStreams : Prop :=
  ∀ s : State, s.status.err = .noError →
    exec (.strrst false false) s = .next s ∧
    exec (.strrst true false) s = .next { s with
      inPos := 0#32, nibr := 0#4, status := { s.status with nibrPend := false, endFlag := false } } ∧
    exec (.strrst false true) s = .next { s with
      outLen := 0#32, nibw := 0#4
      status := { s.status with nibDrop := s.status.nibDrop || s.status.nibwPend, nibwPend := false } } ∧
    exec (.strrst true true) s = .next { s with
      inPos := 0#32, nibr := 0#4, outLen := 0#32, nibw := 0#4
      status := { s.status with
        nibrPend := false, endFlag := false, nibDrop := s.status.nibDrop || s.status.nibwPend, nibwPend := false } }

/-! ### Pixel formats (43_pixel_codec) -/

/-- `checkFmt` passes exactly the valid descriptors, answers UNSUPPORTED for FAMILY 3 with reserved bits 0, and CONFIG for
every other word (R181). -/
def Obligations.CheckFmtFollowsTheRule : Prop :=
  ∀ w : Word,
    (checkFmt w = none ↔ ValidDescriptor w) ∧
    (checkFmt w = some .unsupported ↔ bitsOf w 29 3 = 0 ∧ bitsOf w 24 2 = 3) ∧
    (checkFmt w = none ∨ checkFmt w = some .unsupported ∨ checkFmt w = some .config)

/-- SETFMT stores a valid descriptor and sets FMT_VALID; an invalid one raises checkFmt's error, FMT and FMT_VALID kept
(R186, R26). -/
def Obligations.SetfmtStoresOnlyValidDescriptors : Prop :=
  ∀ s : State, s.status.err = .noError →
    (ValidDescriptor s.arg0 →
      exec .setfmt s = .next { s with fmt := s.arg0, status := { s.status with fmtValid := true } }) ∧
    (¬ ValidDescriptor s.arg0 → exec .setfmt s = .next { s with
      status := { s.status with
        err := if bitsOf s.arg0 29 3 = 0 ∧ bitsOf s.arg0 24 2 = 3 then .unsupported else .config
        errOp := 0x30#8 } })

/-- SETFMTID selects the table's descriptor for ids 0 to 11, each the valid, little-endian, unswapped word of its depths; 12
and 13 raise UNSUPPORTED, 14 and 15 CONFIG. LOAD and SAVE choose by the same table: a container's format id has a family and
a descriptor exactly when it is the id of an entry (R185, R187, R284, R285). -/
def Obligations.SetfmtidSelectsTheTableEntry : Prop :=
  (∀ (id : Int) (l : Layout) (w : Word),
    tableFormat id = some (l, w) ↔ 0 ≤ id ∧ formatIds[id.toNat]? = some w ∧ layoutOf w = some l) ∧
  ∀ (s : State) (id : BitVec 4), s.status.err = .noError →
    (∀ w, formatIds[id.toNat]? = some w →
      ValidDescriptor w ∧
      exec (.setfmtid id) s = .next { s with fmt := w, status := { s.status with fmtValid := true } }) ∧
    (id.toNat = 12 ∨ id.toNat = 13 →
      exec (.setfmtid id) s = .next { s with status := { s.status with err := .unsupported, errOp := 0x31#8 } }) ∧
    (14 ≤ id.toNat →
      exec (.setfmtid id) s = .next { s with status := { s.status with err := .config, errOp := 0x31#8 } })

/-- The colour that decoding the encoding of a colour gives, channel by channel; a channel of depth at least 8 is exact
(R197). -/
def Obligations.ColourThroughADescriptor : Prop :=
  ∀ (w c : Word) (l : Layout), checkFmt w = none → layoutOf w = some l →
    let c' := decodeUnit l w (encodeUnit l w c)
    let a := bitsOf c 24 8
    let r := bitsOf c 16 8
    let g := bitsOf c 8 8
    let b := bitsOf c 0 8
    let a' := bitsOf c' 24 8
    let r' := bitsOf c' 16 8
    let g' := bitsOf c' 8 8
    let b' := bitsOf c' 0 8
    match l with
    | .rgba => Through 0 r r' (depth w 0) ∧ Through 0 g g' (depth w 1) ∧ Through 0 b b' (depth w 2) ∧
        Through 255 a a' (depth w 3)
    | .la => Through 255 r r' (depth w 0) ∧ g' = r' ∧ b' = r' ∧ Through 255 a a' (depth w 3)
    | .hl => Through 255 r r' (depth w 0) ∧ Through 255 g g' (depth w 3) ∧ b' = 255 ∧ a' = 255

/-- With every depth at most 8, encoding undoes decoding: `encode(decode(v)) = v` for every unit value v whose bits above T
are 0 (R197). -/
def Obligations.EncodeUndoesDecode : Prop :=
  ∀ (w : Word) (l : Layout) (v : Nat), checkFmt w = none → layoutOf w = some l → ShallowDepths w →
    v < 2 ^ unitBits l w → encodeUnit l w (decodeUnit l w v) = v

/-- DECPIX of whole bytes: the unit at IN_POS in FMT's byte order becomes the colour in RES0, RES1 = 1, END = 0 (R195,
R188). -/
def Obligations.DecpixDecodesTheNextUnit : Prop :=
  ∀ (s : State) (l : Layout), s.status.err = .noError → s.status.fmtValid = true → layoutOf s.fmt = some l →
    isNibble l s.fmt = false →
    s.inPos.toNat + unitSize l s.fmt ≤ s.inLen.toNat →
    exec .decpix s = .next { s with
      res0 := decodeUnit l s.fmt (streamValue s (fmtBe s.fmt) s.inPos.toNat (unitSize l s.fmt))
      res1 := 1#32
      inPos := BitVec.ofNat 32 (s.inPos.toNat + unitSize l s.fmt)
      status := { s.status with endFlag := false } }

/-- DECPIX of nibbles: a pending high nibble is used without moving IN_POS; else the next byte's low nibble is used and its
high nibble kept in NIBR (R189, R195). -/
def Obligations.DecpixTakesNibblesLowFirst : Prop :=
  ∀ (s : State) (l : Layout), s.status.err = .noError → s.status.fmtValid = true → layoutOf s.fmt = some l →
    isNibble l s.fmt = true →
    (s.status.nibrPend = true →
      exec .decpix s = .next { s with
        res0 := decodeUnit l s.fmt s.nibr.toNat, res1 := 1#32
        status := { s.status with nibrPend := false, endFlag := false } }) ∧
    (s.status.nibrPend = false → s.inPos.toNat + 1 ≤ s.inLen.toNat →
      exec .decpix s = .next { s with
        res0 := decodeUnit l s.fmt ((readByte s .inp s.inPos.toNat).toNat % 16), res1 := 1#32
        inPos := BitVec.ofNat 32 (s.inPos.toNat + 1)
        nibr := BitVec.ofNat 4 ((readByte s .inp s.inPos.toNat).toNat / 16)
        status := { s.status with nibrPend := true, endFlag := false } })

/-- The end of the data: an RGBA sequence reports END with no error; a cut RGBA unit and every LA or HL pixel past IN_LEN
raise IO; an LA or HL pixel that DECPIX produces never reports an end; DECPIX and ENCPIX without a format raise STATE (R194,
R195, R196). -/
def Obligations.DecpixAtTheEndOfTheData : Prop :=
  (∀ s : State, s.status.err = .noError → s.status.fmtValid = true → layoutOf s.fmt = some .rgba →
    s.inLen.toNat ≤ s.inPos.toNat →
    exec .decpix s = .next { s with res1 := 0#32, status := { s.status with endFlag := true } }) ∧
  (∀ s : State, s.status.err = .noError → s.status.fmtValid = true → layoutOf s.fmt = some .rgba →
    s.inPos.toNat < s.inLen.toNat → s.inLen.toNat < s.inPos.toNat + unitSize .rgba s.fmt →
    exec .decpix s = .next { s with status := { s.status with err := .io, errOp := 0x32#8 } }) ∧
  (∀ (s : State) (l : Layout), s.status.err = .noError → s.status.fmtValid = true → layoutOf s.fmt = some l →
    l ≠ .rgba → (isNibble l s.fmt = true → s.status.nibrPend = false) →
    s.inLen.toNat < s.inPos.toNat + (if isNibble l s.fmt then 1 else unitSize l s.fmt) →
    exec .decpix s = .next { s with status := { s.status with err := .io, errOp := 0x32#8 } }) ∧
  (∀ (s t : State) (l : Layout), layoutOf s.fmt = some l → l ≠ .rgba → exec .decpix s = .next t →
    t.status.err = .noError → t.res1 = 1#32 ∧ t.status.endFlag = false) ∧
  (∀ s : State, s.status.err = .noError → s.status.fmtValid = false →
    exec .decpix s = .next { s with status := { s.status with err := .state, errOp := 0x32#8 } } ∧
    exec .encpix s = .next { s with status := { s.status with err := .state, errOp := 0x33#8 } })

/-- ENCPIX of whole bytes: the encoded unit at OUT_LEN in FMT's byte order, every other byte of OUT kept, OUT_LEN past it
(R196, R188). -/
def Obligations.EncpixAppendsTheUnit : Prop :=
  ∀ (s : State) (l : Layout), s.status.err = .noError → s.status.fmtValid = true → layoutOf s.fmt = some l →
    isNibble l s.fmt = false → s.outLen.toNat + unitSize l s.fmt ≤ s.params.outSize →
    ∃ t, exec .encpix s = .next t ∧
      t = { s with outBuf := t.outBuf, outLen := BitVec.ofNat 32 (s.outLen.toNat + unitSize l s.fmt) } ∧
      (∀ i, i < unitSize l s.fmt → readByte t .out (s.outLen.toNat + i) =
        streamByte (fmtBe s.fmt) (encodeUnit l s.fmt s.arg0) (unitSize l s.fmt) i) ∧
      OutKept s t s.outLen.toNat (unitSize l s.fmt)

/-- ENCPIX of nibbles goes through the nibble packer: kept in NIBW, or completing a byte at OUT_LEN (R196, R154). -/
def Obligations.EncpixPacksNibbles : Prop :=
  ∀ (s : State) (l : Layout), s.status.err = .noError → s.status.fmtValid = true → layoutOf s.fmt = some l →
    isNibble l s.fmt = true →
    encodeUnit l s.fmt s.arg0 < 16 ∧
    (s.status.nibwPend = false →
      exec .encpix s = .next { s with
        nibw := BitVec.ofNat 4 (encodeUnit l s.fmt s.arg0), status := { s.status with nibwPend := true } }) ∧
    (s.status.nibwPend = true → s.outLen.toNat + 1 ≤ s.params.outSize →
      ∃ t, exec .encpix s = .next t ∧
        t = { s with
          outBuf := t.outBuf, outLen := BitVec.ofNat 32 (s.outLen.toNat + 1)
          status := { s.status with nibwPend := false } } ∧
        (readByte t .out s.outLen.toNat).toNat = s.nibw.toNat + 16 * encodeUnit l s.fmt s.arg0 ∧
        OutKept s t s.outLen.toNat 1)

/-! ### Tile engine (44_tile_engine, 45_tile_3ds) -/

/-- TADDR reports the address of ARG0 modulo 2^32 of the descriptor the registers hold, the
first TILE_K and TILE_RK entries with dx in 15:0 and dy in 31:16, when it passes checkTile, else raises CONFIG (R241 to R243,
10_state R44 to R46). -/
def Obligations.TaddrReportsTheAddress : Prop :=
  ∀ s : State, s.status.err = .noError →
    ((1 ≤ s.tileK.toNat ∧ s.tileK.toNat ≤ 16) → s.tileRk.toNat ≤ 16 → s.tileStride ≠ 0#32 →
      exec .taddr s = .next { s with
        res0 := BitVec.ofNat 32 (registerAddress s s.arg0.toNat).1
        res1 := BitVec.ofNat 32 (registerAddress s s.arg0.toNat).2 }) ∧
    ((s.tileK.toNat = 0 ∨ 16 < s.tileK.toNat ∨ 16 < s.tileRk.toNat ∨ s.tileStride = 0#32) →
      exec .taddr s = .next { s with status := { s.status with err := .config, errOp := 0x40#8 } })

/-- The address function for any table of width W and height H, S / W tiles, rounded up, in a row of tiles: the macro tile's
origin plus the XOR of the origin, the entries whose bit of n is set, and the row entries whose bit of the tile row is set
(R240, R242). -/
def Obligations.AddressFoldsTheSelectedEntries : Prop :=
  ∀ (tbl rt : List (Nat × Nat)) (o : Nat × Nat) (stride n : Nat),
    let w := tbl.foldr (fun e a => e.1 ||| a) 0 + 1
    let h := tbl.foldr (fun e a => e.2 ||| a) 0 + 1
    let perRow := (stride + w - 1) / w
    let t := n / (w * h)
    let chosen := ((tbl.zipIdx.filter fun e => n.testBit e.2) ++
      rt.zipIdx.filter fun e => (t / perRow).testBit e.2).map Prod.fst
    tileW tbl = w ∧ tileH tbl = h ∧ tilesPerRow tbl stride = perRow ∧
    addrWith tbl rt o stride n =
      (t % perRow * w + chosen.foldl (fun a e => a ^^^ e.1) o.1,
       t / perRow * h + chosen.foldl (fun a e => a ^^^ e.2) o.2)

/-- The canonical table gives classic Z-order: W = H = 2^m, the even bits of n give x and the odd bits y (R244). -/
def Obligations.CanonicalTableIsZOrder : Prop :=
  ∀ m n stride : Nat, 1 ≤ stride →
    tileW (zOrder m) = 2 ^ m ∧ tileH (zOrder m) = 2 ^ m ∧
    addrWith (zOrder m) [] (0, 0) stride n =
      (n / 4 ^ m % ((stride + 2 ^ m - 1) / 2 ^ m) * 2 ^ m + gather n 0 m,
       n / 4 ^ m / ((stride + 2 ^ m - 1) / 2 ^ m) * 2 ^ m + gather n 1 m)

/-- A regular table with an origin and row entries inside the tile: the offset stays inside the tile, the low bits of n map
one-to-one onto it, and adding the macro tile's origin equals XOR-ing it in (R245, R246). -/
def Obligations.RegularTableOffsetsFillTheTile : Prop :=
  ∀ (tbl rt : List (Nat × Nat)) (a b : Nat) (o : Nat × Nat) (stride : Nat), Regular tbl a b →
    o.1 < 2 ^ a → o.2 < 2 ^ b → (∀ e ∈ rt, e.1 < 2 ^ a ∧ e.2 < 2 ^ b) → 1 ≤ stride →
    tileW tbl = 2 ^ a ∧ tileH tbl = 2 ^ b ∧
    (∀ n my, let p := foldOffsets rt 0 my (foldOffsets tbl 0 n o); p.1 < 2 ^ a ∧ p.2 < 2 ^ b) ∧
    (∀ n n' my, n < 2 ^ (a + b) → n' < 2 ^ (a + b) →
      foldOffsets rt 0 my (foldOffsets tbl 0 n o) = foldOffsets rt 0 my (foldOffsets tbl 0 n' o) → n = n') ∧
    (∀ n, let t := n / 2 ^ (a + b)
      let my := t / tilesPerRow tbl stride
      let p := foldOffsets rt 0 my (foldOffsets tbl 0 n o)
      addrWith tbl rt o stride n = ((t % tilesPerRow tbl stride * 2 ^ a) ^^^ p.1, (my * 2 ^ b) ^^^ p.2))

/-- SET3DS loads the 3DS table and the effective dimensions into the tile registers; a zero dimension raises CONFIG
(R265, R260, R262). -/
def Obligations.Set3dsLoadsTheConfiguration : Prop :=
  ∀ (s : State) (o : Orient) (pad : Bool), s.status.err = .noError →
    let wd := bitsOf s.arg0 0 16
    let ht := bitsOf s.arg0 16 16
    let we := if pad then padDim wd else wd
    let he := if pad then padDim ht else ht
    (wd ≠ 0 → ht ≠ 0 →
      ∃ t, exec (.set3ds o pad) s = .next t ∧
        t = { s with
          tbl := t.tbl, tileK := 6#5, tileRk := 0#5, tileOrigin := 0#32
          tileStride := BitVec.ofNat 32 (if o = .identity ∨ o = .flipVertical then we else he)
          t3dsCfg := BitVec.ofNat 3 (o.code.toNat + if pad then 4 else 0)
          t3dsW := BitVec.ofNat 32 we, t3dsH := BitVec.ofNat 32 he
          status := { s.status with t3dsValid := true } } ∧
        t.tbl.toList = [0x00000001#32, 0x00010000#32, 0x00000002#32, 0x00020000#32, 0x00000004#32, 0x00040000#32] ++
          s.tbl.toList.drop 6) ∧
    (wd = 0 ∨ ht = 0 →
      exec (.set3ds o pad) s = .next { s with status := { s.status with err := .config, errOp := 0x41#8 } })

/-- T3DS reports the oriented address of ARG0 modulo 2^32, negative coordinates included; before SET3DS it raises STATE, and
with an invalid tile descriptor CONFIG (R266, R263). -/
def Obligations.T3dsReportsTheOrientedAddress : Prop :=
  ∀ s : State, s.status.err = .noError →
    (s.status.t3dsValid = true → (1 ≤ s.tileK.toNat ∧ s.tileK.toNat ≤ 16) → s.tileRk.toNat ≤ 16 →
      s.tileStride ≠ 0#32 →
      ∀ x y : Nat, registerAddress s s.arg0.toNat = (x, y) →
      let flip : Int := (s.t3dsH.toNat : Int) - 1
      let p : Int × Int :=
        if s.t3dsCfg.toNat % 4 = 0 then ((x : Int), (y : Int))
        else if s.t3dsCfg.toNat % 4 = 1 then ((y : Int), (x : Int))
        else if s.t3dsCfg.toNat % 4 = 2 then ((y : Int), flip - x)
        else ((x : Int), flip - y)
      exec .t3ds s = .next { s with res0 := BitVec.ofInt 32 p.1, res1 := BitVec.ofInt 32 p.2 }) ∧
    (s.status.t3dsValid = false →
      exec .t3ds s = .next { s with status := { s.status with err := .state, errOp := 0x42#8 } }) ∧
    (s.status.t3dsValid = true →
      (s.tileK.toNat = 0 ∨ 16 < s.tileK.toNat ∨ 16 < s.tileRk.toNat ∨ s.tileStride = 0#32) →
      exec .t3ds s = .next { s with status := { s.status with err := .config, errOp := 0x42#8 } })

/-- `padDim(d)` is the smallest power of two >= d, and the source's formula for d >= 2 (R261). -/
def Obligations.PadDimIsTheLeastPowerOfTwo : Prop :=
  (∀ d, 1 ≤ d → ∃ k, padDim d = 2 ^ k ∧ d ≤ 2 ^ k ∧ ∀ j, d ≤ 2 ^ j → 2 ^ k ≤ 2 ^ j) ∧
    (∀ d, 2 ≤ d → padDim d = 2 <<< Nat.log2 (d - 1)) ∧
    padDim 1 = 1 ∧ padDim 2 = 2 ∧ padDim 3 = 4 ∧ padDim 8 = 8 ∧ padDim 9 = 16 ∧ padDim 200 = 256 ∧
    padDim 65535 = 65536

/-- `addr3ds` is the base address under the 3DS table, with the stride that the orientation's code selects, turned by that
code, for every index, dimensions and orientation. When both effective dimensions are multiples of 8, it maps [0, We*He)
one-to-one onto [0, We) x [0, He), for every orientation (R262 to R264, R267). -/
def Obligations.Addr3dsCoversTheImage : Prop :=
  (Orient.identity.code.toNat = 0 ∧ Orient.transpose.code.toNat = 1 ∧ Orient.rotateCcw.code.toNat = 2 ∧
    Orient.flipVertical.code.toNat = 3) ∧
  (∀ (o : Orient) (we he n : Nat),
    addr3ds n o we he =
      orientBy o.code.toNat (base3ds (if o.code.toNat = 0 ∨ o.code.toNat = 3 then we else he) n) he) ∧
  ∀ (o : Orient) (we he : Nat), we % 8 = 0 → he % 8 = 0 →
    (∀ n, n < we * he → ∃ x y, PixelAt o we he we he n x y) ∧
    (∀ n n', n < we * he → n' < we * he → addr3ds n o we he = addr3ds n' o we he → n = n') ∧
    (∀ x y, x < we → y < he → ∃ n, n < we * he ∧ PixelAt o we he we he n x y)

/-! ### Container (46_container) -/

/-- LOAD of a good container whose payload holds every pixel and whose addresses stay inside the bitmap: every pixel stands
decoded at its address, the header, dimensions, flags and count are latched, nothing else changes (R284, R51, R282). -/
def Obligations.LoadDecodesTheContainer : Prop :=
  ∀ (s : State) (o : Orient) (pad : Bool) (l : Layout) (w : Word) (wd ht size : Nat),
    s.status.err = .noError → 32 ≤ s.inLen.toNat → headerOf (inHeader s) = ⟨size, (headerOf (inHeader s)).formatId, wd, ht⟩ →
    32 + size ≤ s.inLen.toNat → tableFormat (headerOf (inHeader s)).formatId = some (l, w) → 0 < wd → 0 < ht →
    wd * ht ≤ s.params.bmpWords → payloadNeed l w (wd * ht) ≤ size →
    (∀ i, i < wd * ht → ∃ x y, PixelAt o (effectiveDim pad wd) (effectiveDim pad ht) wd ht i x y) →
    ∃ t, exec (.load o pad) s = .next t ∧
      t = { s with
        bmp := t.bmp, hdr := inHeader s, bmpW := BitVec.ofNat 16 wd, bmpH := BitVec.ofNat 16 ht
        res0 := BitVec.ofNat 32 (wd * ht), status := { s.status with hdrValid := true, short := false } } ∧
      (∀ i x y, i < wd * ht → PixelAt o (effectiveDim pad wd) (effectiveDim pad ht) wd ht i x y →
        bmpWord t (y * wd + x) = decodeUnit l w (payloadUnit s l w i)) ∧
      (∀ a, 4 * (wd * ht) ≤ a → readByte t .bmp a = readByte s .bmp a)

/-- LOAD of an RGBA container whose payload ends on a unit boundary after `count` of its pixels: those pixels are placed,
SHORT = 1, RES0 = count, and every other BMP word is as it was (R284, R33). -/
def Obligations.LoadOfAShortRgbaPayload : Prop :=
  ∀ (s : State) (o : Orient) (pad : Bool) (w : Word) (wd ht count : Nat),
    s.status.err = .noError → 32 ≤ s.inLen.toNat →
    headerOf (inHeader s) = ⟨(count * unitSize .rgba w : Nat), (headerOf (inHeader s)).formatId, wd, ht⟩ →
    32 + count * unitSize .rgba w ≤ s.inLen.toNat →
    tableFormat (headerOf (inHeader s)).formatId = some (.rgba, w) → 0 < wd → 0 < ht →
    wd * ht ≤ s.params.bmpWords → count < wd * ht →
    (∀ i, i < count → ∃ x y, PixelAt o (effectiveDim pad wd) (effectiveDim pad ht) wd ht i x y) →
    ∃ t, exec (.load o pad) s = .next t ∧
      t = { s with
        bmp := t.bmp, hdr := inHeader s, bmpW := BitVec.ofNat 16 wd, bmpH := BitVec.ofNat 16 ht
        res0 := BitVec.ofNat 32 count, status := { s.status with hdrValid := true, short := true } } ∧
      (∀ i x y, i < count → PixelAt o (effectiveDim pad wd) (effectiveDim pad ht) wd ht i x y →
        bmpWord t (y * wd + x) = decodeUnit .rgba w (payloadUnit s .rgba w i)) ∧
      (∀ k, (∀ i x y, i < count → PixelAt o (effectiveDim pad wd) (effectiveDim pad ht) wd ht i x y →
          k ≠ y * wd + x) →
        bmpWord t k = bmpWord s k)

/-- The container's header: its words are IN's first 32 bytes, little-endian; dataSize is at offset 4 and formatId at 12, 32
bits each, width at 16 and height at 18, 16 bits each, all signed; SAVE reads the same fields of the latched words. LOAD's
refusals of a header, in their order: IO, IO, UNSUPPORTED, CONFIG, CONFIG, CAPACITY (R280, R281, R284, R285, R322, 10_state
R51). -/
def Obligations.LoadChecksTheHeaderInOrder : Prop :=
  (∀ (s : State) (k : Fin 8), (inHeader s)[k] = BitVec.ofNat 32 (streamValue s false (4 * k.val) 4)) ∧
  (∀ s : State, headerOf (inHeader s) =
    ⟨signed (streamValue s false 4 4) 32, signed (streamValue s false 12 4) 32, signed (streamValue s false 16 2) 16,
      signed (streamValue s false 18 2) 16⟩) ∧
  (∀ hdr : Vector Word 8, headerOf hdr =
    ⟨signed hdr[1].toNat 32, signed hdr[3].toNat 32, signed (bitsOf hdr[4] 0 16) 16, signed (bitsOf hdr[4] 16 16) 16⟩) ∧
  ∀ (s : State) (o : Orient) (pad : Bool), s.status.err = .noError →
    let h := headerOf (inHeader s)
    let fails (e : ErrCode) : Prop :=
      exec (.load o pad) s = .next { s with status := { s.status with err := e, errOp := 0x50#8 } }
    (s.inLen.toNat < 32 → fails .io) ∧
    (32 ≤ s.inLen.toNat → h.dataSize < 0 ∨ (s.inLen.toNat : Int) < 32 + h.dataSize → fails .io) ∧
    (32 ≤ s.inLen.toNat → 0 ≤ h.dataSize → 32 + h.dataSize ≤ s.inLen.toNat →
      (h.formatId = 12 ∨ h.formatId = 13 → fails .unsupported) ∧
      (h.formatId < 0 ∨ 13 < h.formatId → fails .config) ∧
      (0 ≤ h.formatId → h.formatId ≤ 11 →
        (h.width ≤ 0 ∨ h.height ≤ 0 → fails .config) ∧
        (0 < h.width → 0 < h.height → (s.params.bmpWords : Int) < h.width * h.height → fails .capacity)))

/-- SAVE of a latched header whose dimensions match BMP_W and BMP_H: OUT holds the header unchanged and every pixel encoded
in address order, OUT_LEN is the container's length, the nibble packer is empty, NIB_DROP records a lost nibble (R285). -/
def Obligations.SaveEncodesTheBitmap : Prop :=
  ∀ (s : State) (o : Orient) (pad : Bool) (l : Layout) (w : Word) (wd ht : Nat),
    s.status.err = .noError → s.status.hdrValid = true → (headerOf s.hdr).width = wd → (headerOf s.hdr).height = ht →
    s.bmpW.toNat = wd → s.bmpH.toNat = ht → tableFormat (headerOf s.hdr).formatId = some (l, w) →
    wd * ht ≤ s.params.bmpWords →
    (∀ i, i < wd * ht → ∃ x y, PixelAt o (effectiveDim pad wd) (effectiveDim pad ht) wd ht i x y) →
    let len := if isNibble l w then wd * ht / 2 else wd * ht * unitSize l w
    let unit (x y : Nat) : Nat := encodeUnit l w (bmpWord s (y * wd + x))
    32 + len ≤ s.params.outSize →
    ∃ t, exec (.save o pad) s = .next t ∧
      t = { s with
        outBuf := t.outBuf, outLen := BitVec.ofNat 32 (32 + len), nibw := 0#4
        status := { s.status with
          nibDrop := s.status.nibDrop || (isNibble l w && decide (wd * ht % 2 = 1)) || s.status.nibwPend
          nibwPend := false } } ∧
      (∀ (k : Fin 8) (i : Nat), i < 4 →
        readByte t .out (4 * k.val + i) = BitVec.ofNat 8 (s.hdr[k].toNat / 2 ^ (8 * i))) ∧
      (isNibble l w = false → ∀ i x y b, i < wd * ht → b < unitSize l w →
        PixelAt o (effectiveDim pad wd) (effectiveDim pad ht) wd ht i x y →
        readByte t .out (32 + i * unitSize l w + b) = BitVec.ofNat 8 (unit x y / 2 ^ (8 * b))) ∧
      (isNibble l w = true → ∀ i x y x' y', 2 * i + 1 < wd * ht →
        PixelAt o (effectiveDim pad wd) (effectiveDim pad ht) wd ht (2 * i) x y →
        PixelAt o (effectiveDim pad wd) (effectiveDim pad ht) wd ht (2 * i + 1) x' y' →
        readByte t .out (32 + i) = BitVec.ofNat 8 (unit x y + 16 * unit x' y')) ∧
      (∀ a, 32 + len ≤ a → readByte t .out a = readByte s .out a)

/-- SAVE raises STATE without a header, and VALIDATION for a width, then for a height, that differs from the header's, with
the actual and the expected value in RES0 and the dimension in RES1 (R285, R323). -/
def Obligations.SaveValidatesTheDimensions : Prop :=
  ∀ (s : State) (o : Orient) (pad : Bool), s.status.err = .noError →
    (s.status.hdrValid = false →
      exec (.save o pad) s = .next { s with status := { s.status with err := .state, errOp := 0x51#8 } }) ∧
    (s.status.hdrValid = true → (s.bmpW.toNat : Int) ≠ (headerOf s.hdr).width →
      exec (.save o pad) s = .next { s with
        status := { s.status with err := .validation, errOp := 0x51#8 }
        res0 := BitVec.ofNat 32 (s.bmpW.toNat * 2 ^ 16 + bitsOf s.hdr[4] 0 16), res1 := 0#32 }) ∧
    (s.status.hdrValid = true → (s.bmpW.toNat : Int) = (headerOf s.hdr).width →
      (s.bmpH.toNat : Int) ≠ (headerOf s.hdr).height →
      exec (.save o pad) s = .next { s with
        status := { s.status with err := .validation, errOp := 0x51#8 }
        res0 := BitVec.ofNat 32 (s.bmpH.toNat * 2 ^ 16 + bitsOf s.hdr[4] 16 16), res1 := 1#32 })

/-- The first failing pixel ends LOAD and SAVE. An address outside the bitmap raises BOUNDS with the pixel's index in RES0;
LOAD raises IO, before it looks at the address, when the payload ends inside the pixel's unit, or for LA and HL before it
(R283, R284, R285, R322, R323). -/
def Obligations.PixelOutsideTheBitmapRaisesBounds : Prop :=
  ∀ (s : State) (o : Orient) (pad : Bool) (l : Layout) (w : Word) (wd ht bad : Nat), s.status.err = .noError →
    wd * ht ≤ s.params.bmpWords → 0 < wd → 0 < ht → bad < wd * ht →
    (∀ i, i < bad → ∃ x y, PixelAt o (effectiveDim pad wd) (effectiveDim pad ht) wd ht i x y) →
    (∀ size : Nat, 32 ≤ s.inLen.toNat →
      headerOf (inHeader s) = ⟨size, (headerOf (inHeader s)).formatId, wd, ht⟩ → 32 + size ≤ s.inLen.toNat →
      tableFormat (headerOf (inHeader s)).formatId = some (l, w) →
      ((∀ x y, ¬ PixelAt o (effectiveDim pad wd) (effectiveDim pad ht) wd ht bad x y) →
          payloadNeed l w (bad + 1) ≤ size →
        exec (.load o pad) s = .next { s with
          status := { s.status with err := .bounds, errOp := 0x50#8 }, res0 := BitVec.ofNat 32 bad, res1 := 0#32 }) ∧
      (payloadNeed l w bad ≤ size → size < payloadNeed l w (bad + 1) → (l = .rgba → size ≠ payloadNeed l w bad) →
        exec (.load o pad) s = .next { s with status := { s.status with err := .io, errOp := 0x50#8 } })) ∧
    (s.status.hdrValid = true → (headerOf s.hdr).width = wd → (headerOf s.hdr).height = ht → s.bmpW.toNat = wd →
      s.bmpH.toNat = ht → tableFormat (headerOf s.hdr).formatId = some (l, w) →
      (∀ x y, ¬ PixelAt o (effectiveDim pad wd) (effectiveDim pad ht) wd ht bad x y) →
      exec (.save o pad) s = .next { s with
        status := { s.status with err := .bounds, errOp := 0x51#8 }, res0 := BitVec.ofNat 32 bad, res1 := 0#32 })

/-- The container round trip (R286): after a LOAD that succeeded with SHORT = 0, SAVE with the same ORIENT and PAD writes the
same 32 header bytes and the first bytes of the same payload, from any state without an error that has the header, BMP, BMP_W
and BMP_H as LOAD left them and has had no power-on since, whatever else changed. -/
def Obligations.LoadThenSaveReproducesTheContainer : Prop :=
  ∀ (s t t' : State) (o : Orient) (pad : Bool) (l : Layout) (w : Word), StateInv s → s.status.err = .noError →
    exec (.load o pad) s = .next t → t.status.err = .noError → t.status.short = false →
    tableFormat (headerOf t.hdr).formatId = some (l, w) →
    t'.status.err = .noError → t'.status.hdrValid = t.status.hdrValid → t'.hdr = t.hdr → t'.bmp = t.bmp →
    t'.bmpW = t.bmpW → t'.bmpH = t.bmpH → t'.params = t.params → t'.powerOns = t.powerOns →
    let pixels := t.bmpW.toNat * t.bmpH.toNat
    let len := if isNibble l w then pixels / 2 else pixels * unitSize l w
    32 + len ≤ t.params.outSize →
    ∃ u, exec (.save o pad) t' = .next u ∧ u.status.err = .noError ∧ u.outLen.toNat = 32 + len ∧
      ∀ a, a < 32 + len → readByte u .out a = readByte s .inp a

/-! ### The host interface (10_state, 20_memory) -/

/-- A host write of IN_LEN stores min(v, IN_SIZE); a host write of IN_POS stores the value and clears NIBR_PEND, NIBR and
END (R38, R39, R78). -/
def Obligations.StreamRegisterWritesClampAndRestart : Prop :=
  ∀ (s : State) (v : Word) (rest : List HostOp),
    (WritesReg s 0x01C v rest →
      step s = .next { s with pending := rest, inLen := BitVec.ofNat 32 (min v.toNat s.params.inSize) }) ∧
    (WritesReg s 0x020 v rest →
      step s = .next { s with
        pending := rest, inPos := v, nibr := 0#4, status := { s.status with nibrPend := false, endFlag := false } })

/-- The other host-writable registers store the value written, or the bits they have; writes to registers marked R and to
reserved offsets are ignored (R23 to R25, R41 to R46, R50, R52, R53). -/
def Obligations.RegisterWritesFollowTheMap : Prop :=
  ∀ (s : State) (v : Word) (rest : List HostOp),
    (WritesReg s 0x008 v rest → step s = .next { s with pending := rest, arg0 := v }) ∧
    (WritesReg s 0x00C v rest → step s = .next { s with pending := rest, arg1 := v }) ∧
    (WritesReg s 0x030 v rest → step s = .next { s with pending := rest, tileK := BitVec.ofNat 5 v.toNat }) ∧
    (WritesReg s 0x034 v rest → step s = .next { s with pending := rest, tileRk := BitVec.ofNat 5 v.toNat }) ∧
    (WritesReg s 0x038 v rest → step s = .next { s with pending := rest, tileStride := v }) ∧
    (WritesReg s 0x03C v rest → step s = .next { s with pending := rest, tileOrigin := v }) ∧
    (WritesReg s 0x054 v rest → step s = .next { s with pending := rest, bmpW := BitVec.ofNat 16 v.toNat }) ∧
    (WritesReg s 0x058 v rest → step s = .next { s with pending := rest, bmpH := BitVec.ofNat 16 v.toNat }) ∧
    (∀ j : Fin 16, WritesReg s (0x080 + 4 * j.val) v rest →
      step s = .next { s with pending := rest, tbl := s.tbl.set j v }) ∧
    (∀ j : Fin 16, WritesReg s (0x0C0 + 4 * j.val) v rest →
      step s = .next { s with pending := rest, rt := s.rt.set j v }) ∧
    (∀ off, WritesReg s off v rest → off ∈ readOnlyOffsets ∨ (0x100 ≤ off ∧ off < 0x100000 ∧ off % 4 = 0) →
      step s = .next { s with pending := rest })

/-- A host register read returns the register of the map; CMD and reserved offsets read 0, and bits a register does not have
read 0 (R36, R47, R52, R53). -/
def Obligations.RegisterReadsFollowTheMap : Prop :=
  ∀ (s : State) (rest : List HostOp),
    let gives (off : Nat) (v : Word) : Prop :=
      ReadsReg s off rest → step s = .next { s with pending := rest, hostData := some v }
    gives 0x000 0#32 ∧ gives 0x004 s.status.word ∧ gives 0x008 s.arg0 ∧ gives 0x00C s.arg1 ∧ gives 0x010 s.res0 ∧
    gives 0x014 s.res1 ∧ gives 0x018 s.fmt ∧ gives 0x01C s.inLen ∧ gives 0x020 s.inPos ∧ gives 0x024 s.outLen ∧
    gives 0x028 (BitVec.ofNat 32 s.nibw.toNat) ∧ gives 0x02C (BitVec.ofNat 32 s.nibr.toNat) ∧
    gives 0x030 (BitVec.ofNat 32 s.tileK.toNat) ∧ gives 0x034 (BitVec.ofNat 32 s.tileRk.toNat) ∧
    gives 0x038 s.tileStride ∧ gives 0x03C s.tileOrigin ∧
    gives 0x040 (if 1 ≤ s.tileK.toNat ∧ s.tileK.toNat ≤ 16 then BitVec.ofNat 32 (tileW (entriesOf s.tbl s.tileK.toNat)) else 0#32) ∧
    gives 0x044 (if 1 ≤ s.tileK.toNat ∧ s.tileK.toNat ≤ 16 then BitVec.ofNat 32 (tileH (entriesOf s.tbl s.tileK.toNat)) else 0#32) ∧
    gives 0x048 (BitVec.ofNat 32 s.t3dsCfg.toNat) ∧ gives 0x04C s.t3dsW ∧ gives 0x050 s.t3dsH ∧
    gives 0x054 (BitVec.ofNat 32 s.bmpW.toNat) ∧ gives 0x058 (BitVec.ofNat 32 s.bmpH.toNat) ∧ gives 0x05C 0#32 ∧
    (∀ i : Fin 8, gives (0x060 + 4 * i.val) s.hdr[i]) ∧ (∀ j : Fin 16, gives (0x080 + 4 * j.val) s.tbl[j]) ∧
    (∀ j : Fin 16, gives (0x0C0 + 4 * j.val) s.rt[j]) ∧
    (∀ off, 0x100 ≤ off → off < 0x100000 → off % 4 = 0 → gives off 0#32)

/-- No host read has a side effect on the block (R78); `hostData`, where the word read is left, is the model's (log 2). -/
def Obligations.HostReadsHaveNoSideEffect : Prop :=
  ∀ (s t : State) (addr width : Nat) (rest : List HostOp), s.pending = .read addr width :: rest → step s = .next t →
    t = { s with pending := rest, hostData := t.hostData }

/-- A host window write stores its bytes little-endian in IN or BMP where they fall inside the buffer, and nothing
elsewhere; the OUT window ignores it (R71, R72). That a write across the buffer's end stores the bytes inside, and a narrow
write the low bytes of its value, is the model's choice (log 6); offsets and alignment count from PXSWZ_BASE (log 7). -/
def Obligations.WindowWritesStoreLittleEndian : Prop :=
  ∀ (s : State) (b : Buffer) (off width : Nat) (v : Word) (rest : List HostOp), WindowAccess b off width →
    s.pending = .write (s.params.base + windowBase b + off) width v :: rest →
    ∃ t, step s = .next t ∧
      t = { s with
        pending := rest
        inBuf := if b = .inp then t.inBuf else s.inBuf, bmp := if b = .bmp then t.bmp else s.bmp } ∧
      (b ≠ .out → ∀ i, i < width → off + i < bufferSize s.params b →
        readByte t b (off + i) = BitVec.ofNat 8 (v.toNat / 2 ^ (8 * i))) ∧
      (∀ a, a < off ∨ off + width ≤ a ∨ bufferSize s.params b ≤ a → readByte t b a = readByte s b a)

/-- A host window read returns the buffer's bytes little-endian, 0 for a byte at or past the buffer's size (R71, R72).
That a read across the buffer's end gives the bytes inside is the model's choice (log 6); offsets and alignment count from
PXSWZ_BASE (log 7). -/
def Obligations.WindowReadsAreLittleEndian : Prop :=
  ∀ (s : State) (b : Buffer) (off width : Nat) (rest : List HostOp), WindowAccess b off width →
    s.pending = .read (s.params.base + windowBase b + off) width :: rest →
    step s = .next { s with
      pending := rest
      hostData := some (BitVec.ofNat 32 (∑ i ∈ Finset.range width,
        if off + i < bufferSize s.params b then (readByte s b (off + i)).toNat * 2 ^ (8 * i) else 0)) }

/-- A host register access that is not 32 bits wide at a multiple of 4, and a window access that is not 1, 2 or 4 bytes wide
and naturally aligned, have no step (R53, R72). That alignment counts from PXSWZ_BASE is the model's choice (log 7). -/
def Obligations.MisalignedHostAccessesHaveNoStep : Prop :=
  ∀ (s : State) (off width : Nat) (v : Word) (rest : List HostOp) (op : HostOp), s.pending = op :: rest →
    (op = .read (s.params.base + off) width ∨ op = .write (s.params.base + off) width v) →
    (off < 0x100000 → ¬(width = 4 ∧ off % 4 = 0) → step s = .refused .registerAccess) ∧
    (0x100000 ≤ off → off < 0x800000 → ¬((width = 1 ∨ width = 2 ∨ width = 4) ∧ off % width = 0) →
      step s = .refused .windowAccess)

/-! ### Whole-machine rules -/

/-- No command but SRESET writes ARG0 or ARG1, RT or IN_LEN, and no command at all writes the buffer IN or changes the
parameters (R23, R38, R46, R70; that SRESET clears them is R311, log 8). -/
def Obligations.CommandsKeepOperandsAndInput : Prop :=
  ∀ (i : Instr) (s t : State), exec i s = .next t →
    t.inBuf = s.inBuf ∧ t.params = s.params ∧ t.powerOns = s.powerOns ∧ t.pending = s.pending ∧
    (i ≠ .sreset → t.arg0 = s.arg0 ∧ t.arg1 = s.arg1 ∧ t.rt = s.rt ∧ t.inLen = s.inLen)

/-- FMT_VALID, T3DS_VALID and HDR_VALID are cleared by no command but SRESET, and only their own commands set them and write
what they guard (R26, R27, R28, R37, R49, R51). -/
def Obligations.ValidFlagsAreClearedOnlyByReset : Prop :=
  ∀ (i : Instr) (s t : State), exec i s = .next t → i ≠ .sreset →
    (s.status.fmtValid = true → t.status.fmtValid = true) ∧ (s.status.t3dsValid = true → t.status.t3dsValid = true) ∧
    (s.status.hdrValid = true → t.status.hdrValid = true) ∧
    ((∀ id, i ≠ .setfmtid id) → i ≠ .setfmt → t.status.fmtValid = s.status.fmtValid ∧ t.fmt = s.fmt) ∧
    ((∀ o pad, i ≠ .set3ds o pad) →
      t.status.t3dsValid = s.status.t3dsValid ∧ t.t3dsCfg = s.t3dsCfg ∧ t.t3dsW = s.t3dsW ∧ t.t3dsH = s.t3dsH) ∧
    ((∀ o pad, i ≠ .load o pad) →
      t.status.hdrValid = s.status.hdrValid ∧ t.status.short = s.status.short ∧ t.hdr = s.hdr ∧ t.bmp = s.bmp)

/-- The state after reset meets the invariant (the parameters' values are the model's, log 4). -/
def Obligations.ResetMeetsTheInvariant : Prop := StateInv State.reset

/-- Every step of every state that meets the invariant keeps it or is the refusal of a host access the spec gives no step;
no fault (R40, R38, R26, R28, R70). -/
def Obligations.StepKeepsTheInvariant : Prop := ∀ s : State, StateInv s → SafeOutcome (step s)

/-- From a state that meets the invariant every command completes, with its effect or with an error entry: none stops the
machine (R14, R320). -/
def Obligations.EveryCommandCompletes : Prop := ∀ (i : Instr) (s : State), StateInv s → ∃ t, exec i s = .next t ∧ StateInv t

/-! ### Unit values (43_pixel_codec) -/

/-- What a descriptor says of a unit, in closed form: its family and byte order; a nibble or how many bytes; where each
channel lies, from the least significant bit Red, Green, Blue, Alpha with SWAP and Alpha, Blue, Green, Red without it, for LA
and HL the D3-bit field below the D0-bit one; which field each channel of the colour comes from and goes to (R180, R182 to
R184, R190 to R193, 10_state R37). -/
def Obligations.UnitsFollowTheDescriptor : Prop :=
  ∀ (w c : Word) (v : Nat),
    let d0 := depth w 0
    let d1 := depth w 1
    let d2 := depth w 2
    let d3 := depth w 3
    let rgbaBits := d0 + d1 + d2 + d3
    let swap := bitsOf w 27 1 = 1
    let posR := if swap then 0 else d3 + d2 + d1
    let posG := if swap then d0 else d3 + d2
    let posB := if swap then d0 + d1 else d3
    let posA := if swap then d0 + d1 + d2 else 0
    let high := unitField 255 v d3 d0
    let low := unitField 255 v 0 d3
    ((layoutOf w = some .rgba ↔ bitsOf w 24 2 = 0) ∧ (layoutOf w = some .la ↔ bitsOf w 24 2 = 1) ∧
      (layoutOf w = some .hl ↔ bitsOf w 24 2 = 2) ∧ (fmtBe w = true ↔ bitsOf w 26 1 = 1)) ∧
    (isNibble .rgba w = false ∧ (isNibble .la w = true ↔ d0 + d3 = 4) ∧ (isNibble .hl w = true ↔ d0 + d3 = 4) ∧
      unitSize .rgba w = (if rgbaBits ≤ 8 then 1 else if rgbaBits ≤ 16 then 2 else if rgbaBits ≤ 24 then 3 else 4) ∧
      unitSize .la w = (d0 + d3) / 8 ∧ unitSize .hl w = (d0 + d3) / 8) ∧
    IsColour (decodeUnit .rgba w v) (unitField 255 v posA d3) (unitField 0 v posR d0) (unitField 0 v posG d1)
      (unitField 0 v posB d2) ∧
    IsColour (decodeUnit .la w v) low high high high ∧
    IsColour (decodeUnit .hl w v) 255 high low 255 ∧
    (encodeUnit .rgba w c = requant (bitsOf c 16 8) 8 d0 * 2 ^ posR + requant (bitsOf c 8 8) 8 d1 * 2 ^ posG +
        requant (bitsOf c 0 8) 8 d2 * 2 ^ posB + requant (bitsOf c 24 8) 8 d3 * 2 ^ posA ∧
      encodeUnit .rgba w c < 2 ^ rgbaBits) ∧
    (encodeUnit .la w c = requant (bitsOf c 16 8) 8 d0 * 2 ^ d3 + requant (bitsOf c 24 8) 8 d3 ∧
      encodeUnit .hl w c = requant (bitsOf c 16 8) 8 d0 * 2 ^ d3 + requant (bitsOf c 8 8) 8 d3)
end

