-- ==== Sys2Proof/Laws/Bytes.lean ====
section
/-! SUPPORT. Byte order (00_scope.md R13, 20_memory.md R74): lengths, bounds and that the writers and the readers of a value
are inverse. -/

namespace Sys2Proof.Machine

@[simp] theorem leBytes_length (v n : Nat) : (leBytes v n).length = n := by
  induction n generalizing v with
  | zero => rfl
  | succ n ih => simp [leBytes, ih]

@[simp] theorem beBytes_length (v n : Nat) : (beBytes v n).length = n := by simp [beBytes]

@[simp] theorem orderedBytes_length (be : Bool) (v n : Nat) : (orderedBytes be v n).length = n := by
  cases be <;> simp [orderedBytes]

@[simp] theorem readBytes_length (s : State) (b : Buffer) (a n : Nat) : (readBytes s b a n).length = n := by
  simp [readBytes]

/-- A value of n bytes is below 2^(8n). -/
theorem leValue_lt (bs : List Byte) : leValue bs < 2 ^ (8 * bs.length) := by
  induction bs with
  | nil => simp [leValue]
  | cons b bs ih =>
    have hb := b.isLt
    have : 2 ^ (8 * (b :: bs).length) = 256 * 2 ^ (8 * bs.length) := by
      rw [List.length_cons, Nat.mul_add, Nat.pow_add, Nat.mul_comm]
    simp only [leValue]
    omega

/-- `LE(LEbytes(v, n)) = v` for v that fits (R13). -/
theorem leValue_leBytes {v n : Nat} (h : v < 2 ^ (8 * n)) : leValue (leBytes v n) = v := by
  induction n generalizing v with
  | zero => simp at h; simp [leBytes, leValue, h]
  | succ n ih =>
    have e : 2 ^ (8 * (n + 1)) = 256 * 2 ^ (8 * n) := by rw [Nat.mul_add, Nat.pow_add, Nat.mul_comm]
    have hv : v / 256 < 2 ^ (8 * n) := by omega
    simp only [leBytes, leValue, ih hv, BitVec.toNat_ofNat]
    omega

/-- Byte i of `LEbytes(v, n)` is bits 8i+7 to 8i of v (R13). -/
theorem leBytes_getElem (v n i : Nat) (h : i < (leBytes v n).length) :
    (leBytes v n)[i] = BitVec.ofNat 8 (v / 256 ^ i) := by
  induction n generalizing v i with
  | zero => simp at h
  | succ n ih =>
    cases i with
    | zero => simp [leBytes]
    | succ i =>
      simp only [leBytes, List.getElem_cons_succ]
      rw [ih, Nat.div_div_eq_div_mul, pow_succ, Nat.mul_comm]

/-- `LEbytes` of `LE` gives the bytes back (R13). -/
theorem leBytes_leValue (bs : List Byte) : leBytes (leValue bs) bs.length = bs := by
  induction bs with
  | nil => rfl
  | cons b bs ih =>
    have hb := b.isLt
    have h1 : (b.toNat + 256 * leValue bs) / 256 = leValue bs := by omega
    simp only [leValue, List.length_cons, leBytes, h1, ih, List.cons.injEq, and_true]
    apply BitVec.eq_of_toNat_eq
    simp only [BitVec.toNat_ofNat]
    omega

/-- Reading back the ordered bytes of a value gives the value, in either order (20_memory R74). -/
theorem orderedValue_orderedBytes (be : Bool) {v n : Nat} (h : v < 2 ^ (8 * n)) :
    orderedValue be (orderedBytes be v n) = v := by
  cases be <;> simp [orderedValue, orderedBytes, beValue, beBytes, leValue_leBytes h]

/-- A stream value of n bytes is below 2^(8n). -/
theorem orderedValue_lt (be : Bool) (bs : List Byte) : orderedValue be bs < 2 ^ (8 * bs.length) := by
  cases be
  · exact leValue_lt bs
  · simpa [orderedValue, beValue] using leValue_lt bs.reverse

end Sys2Proof.Machine
end

