-- ==== Sys2Proof/Laws/Memory.lean ====
section
/-! SUPPORT. The laws of one memory (20_memory.md R70): a read after a write, and every operation keeps the canonical form. -/

namespace Sys2Proof.Machine

/-- A read after a write at the same offset gives the byte written. -/
@[simp] theorem read?_write_same (m : Memory) (a : Nat) (b : Byte) : Memory.read? (Memory.write m a b) a = some b := by
  induction m with
  | nil => simp [Memory.write, Memory.read?]
  | cons c rest ih =>
    obtain ⟨k, x⟩ := c
    unfold Memory.write
    split
    · simp [Memory.read?]
    · split
      · simp [Memory.read?]
      · rename_i _ hne
        simp [Memory.read?, hne, ih]

/-- A write leaves every other offset alone. -/
theorem read?_write_other (m : Memory) {a c : Nat} (b : Byte) (h : c ≠ a) :
    Memory.read? (Memory.write m a b) c = Memory.read? m c := by
  induction m with
  | nil => simp [Memory.write, Memory.read?, h]
  | cons e rest ih =>
    obtain ⟨k, x⟩ := e
    unfold Memory.write
    split
    · simp [Memory.read?, h]
    · split
      · rename_i _ hak
        subst hak
        simp [Memory.read?, h]
      · simp only [Memory.read?, ih]

/-- The offsets of a written memory: those it had and the one written. -/
theorem mem_write {m : Memory} {a : Nat} {b : Byte} {c : Host.Cell} (h : c ∈ Memory.write m a b) :
    c = (a, b) ∨ c ∈ m := by
  induction m with
  | nil => simpa [Memory.write] using h
  | cons e rest ih =>
    obtain ⟨k, x⟩ := e
    unfold Memory.write at h
    split at h
    · simpa using h
    · split at h
      · rcases List.mem_cons.1 h with h | h
        · exact .inl h
        · exact .inr (List.mem_cons_of_mem _ h)
      · rcases List.mem_cons.1 h with h | h
        · exact .inr (h ▸ List.mem_cons_self)
        · rcases ih h with h | h
          · exact .inl h
          · exact .inr (List.mem_cons_of_mem _ h)

/-- A write keeps the canonical form. -/
theorem write_wf {m : Memory} (h : m.wf) (a : Nat) (b : Byte) : (Memory.write m a b).wf := by
  induction m with
  | nil => simp [Memory.write, Memory.wf]
  | cons e rest ih =>
    obtain ⟨k, x⟩ := e
    obtain ⟨hk, hrest⟩ := List.pairwise_cons.1 h
    unfold Memory.write
    split
    · rename_i hak
      refine List.pairwise_cons.2 ⟨?_, h⟩
      intro c hc
      rcases List.mem_cons.1 hc with hc | hc
      · exact hc ▸ hak
      · exact Nat.lt_trans hak (hk c hc)
    · split
      · rename_i _ hak
        subst hak
        exact List.pairwise_cons.2 ⟨hk, hrest⟩
      · rename_i h1 h2
        refine List.pairwise_cons.2 ⟨?_, ih hrest⟩
        intro c hc
        rcases mem_write hc with hc | hc
        · subst hc
          have : k < a := by omega
          exact this
        · exact hk c hc

/-- Writing bytes keeps the canonical form. -/
theorem writeBytes_wf {m : Memory} (h : m.wf) (a : Nat) (bs : List Byte) : (Memory.writeBytes m a bs).wf := by
  induction bs generalizing m a with
  | nil => exact h
  | cons b bs ih => exact ih (write_wf h a b) (a + 1)

/-- Writing a word keeps the canonical form. -/
theorem writeWord_wf {m : Memory} (h : m.wf) (i : Nat) (w : Word) : (Memory.writeWord m i w).wf :=
  writeBytes_wf h _ _

/-- The offsets after writing bytes: those there were, and those written. -/
theorem mem_writeBytes {m : Memory} {a : Nat} {bs : List Byte} {c : Host.Cell} (h : c ∈ Memory.writeBytes m a bs) :
    (a ≤ c.1 ∧ c.1 < a + bs.length) ∨ c ∈ m := by
  induction bs generalizing m a with
  | nil => exact .inr h
  | cons b bs ih =>
    rcases ih h with h | h
    · simp only [List.length_cons]; omega
    · rcases mem_write h with h | h
      · subst h; simp
      · exact .inr h

/-- Bytes written inside a buffer keep every offset inside it. -/
theorem writeBytes_below {m : Memory} {a size : Nat} {bs : List Byte} (h : ∀ c ∈ m, c.1 < size)
    (hfit : bs = [] ∨ a + bs.length ≤ size) : ∀ c ∈ Memory.writeBytes m a bs, c.1 < size := by
  intro c hc
  rcases hfit with rfl | hfit
  · exact h c hc
  · rcases mem_writeBytes hc with hc | hc
    · omega
    · exact h c hc

/-- What an offset holds after writing bytes: the byte written there, or what it held before. -/
theorem read?_writeBytes (m : Memory) (a : Nat) (bs : List Byte) (c : Nat) :
    Memory.read? (Memory.writeBytes m a bs) c =
      if h : a ≤ c ∧ c < a + bs.length then some (bs[c - a]'(by omega)) else Memory.read? m c := by
  induction bs generalizing m a with
  | nil =>
    simp [Memory.writeBytes]
  | cons b bs ih =>
    rw [Memory.writeBytes, ih]
    by_cases hc : c = a
    · subst hc
      simp
    · by_cases h : a ≤ c ∧ c < a + (b :: bs).length
      · have h' : a + 1 ≤ c ∧ c < a + 1 + bs.length := by simp only [List.length_cons] at h; omega
        have e : c - a = c - (a + 1) + 1 := by omega
        rw [dif_pos h', dif_pos h]
        simp [e]
      · have h' : ¬ (a + 1 ≤ c ∧ c < a + 1 + bs.length) := by simp only [List.length_cons] at h; omega
        rw [dif_neg h', dif_neg h, read?_write_other m b hc]

/-- The same, for what the offset reads as. -/
theorem byteAt_writeBytes (m : Memory) (epoch : Nat) (buf : Buffer) (a : Nat) (bs : List Byte) (c : Nat) :
    Memory.byteAt (Memory.writeBytes m a bs) epoch buf c =
      if h : a ≤ c ∧ c < a + bs.length then bs[c - a]'(by omega) else Memory.byteAt m epoch buf c := by
  unfold Memory.byteAt
  rw [read?_writeBytes]
  by_cases h : a ≤ c ∧ c < a + bs.length
  · rw [dif_pos h, dif_pos h]
  · rw [dif_neg h, dif_neg h]

/-- A write of bytes leaves every offset outside them as it read. -/
theorem byteAt_writeBytes_outside (m : Memory) (epoch : Nat) (buf : Buffer) {a : Nat} {bs : List Byte} {c : Nat}
    (h : c < a ∨ a + bs.length ≤ c) :
    Memory.byteAt (Memory.writeBytes m a bs) epoch buf c = Memory.byteAt m epoch buf c := by
  rw [byteAt_writeBytes, dif_neg (by omega)]

/-- A buffer's memory stays in form when bytes are written inside it. -/
theorem memoryOk_writeBytes {m : Memory} {size a : Nat} {bs : List Byte} (h : m.wf ∧ ∀ c ∈ m, c.1 < size)
    (hfit : bs = [] ∨ a + bs.length ≤ size) :
    (Memory.writeBytes m a bs).wf ∧ ∀ c ∈ Memory.writeBytes m a bs, c.1 < size :=
  ⟨writeBytes_wf h.1 a bs, writeBytes_below h.2 hfit⟩

/-- The memories of the state after reset are in their canonical form. -/
theorem reset_memories_wf : State.reset.inBuf.wf ∧ State.reset.outBuf.wf ∧ State.reset.bmp.wf := by decide

end Sys2Proof.Machine
end

