-- ==== Sys2Proof/Laws/State.lean ====
section
/-! SUPPORT. One lemma per field per named update of the state, each true by unfolding the update once, so that no later
proof unfolds a record update. -/

namespace Sys2Proof.Machine

/-! ### `dropCommand` (60_exceptions R324) -/

@[simp] theorem dropCommand_arg0 (s : State) : (dropCommand s).arg0 = s.arg0 := rfl
@[simp] theorem dropCommand_arg1 (s : State) : (dropCommand s).arg1 = s.arg1 := rfl
@[simp] theorem dropCommand_res0 (s : State) : (dropCommand s).res0 = s.res0 := rfl
@[simp] theorem dropCommand_res1 (s : State) : (dropCommand s).res1 = s.res1 := rfl
@[simp] theorem dropCommand_status (s : State) : (dropCommand s).status = { s.status with dropped := true } := rfl
@[simp] theorem dropCommand_fmt (s : State) : (dropCommand s).fmt = s.fmt := rfl
@[simp] theorem dropCommand_inLen (s : State) : (dropCommand s).inLen = s.inLen := rfl
@[simp] theorem dropCommand_inPos (s : State) : (dropCommand s).inPos = s.inPos := rfl
@[simp] theorem dropCommand_outLen (s : State) : (dropCommand s).outLen = s.outLen := rfl
@[simp] theorem dropCommand_nibw (s : State) : (dropCommand s).nibw = s.nibw := rfl
@[simp] theorem dropCommand_nibr (s : State) : (dropCommand s).nibr = s.nibr := rfl
@[simp] theorem dropCommand_tileK (s : State) : (dropCommand s).tileK = s.tileK := rfl
@[simp] theorem dropCommand_tileRk (s : State) : (dropCommand s).tileRk = s.tileRk := rfl
@[simp] theorem dropCommand_tileStride (s : State) : (dropCommand s).tileStride = s.tileStride := rfl
@[simp] theorem dropCommand_tileOrigin (s : State) : (dropCommand s).tileOrigin = s.tileOrigin := rfl
@[simp] theorem dropCommand_tbl (s : State) : (dropCommand s).tbl = s.tbl := rfl
@[simp] theorem dropCommand_rt (s : State) : (dropCommand s).rt = s.rt := rfl
@[simp] theorem dropCommand_t3dsCfg (s : State) : (dropCommand s).t3dsCfg = s.t3dsCfg := rfl
@[simp] theorem dropCommand_t3dsW (s : State) : (dropCommand s).t3dsW = s.t3dsW := rfl
@[simp] theorem dropCommand_t3dsH (s : State) : (dropCommand s).t3dsH = s.t3dsH := rfl
@[simp] theorem dropCommand_bmpW (s : State) : (dropCommand s).bmpW = s.bmpW := rfl
@[simp] theorem dropCommand_bmpH (s : State) : (dropCommand s).bmpH = s.bmpH := rfl
@[simp] theorem dropCommand_hdr (s : State) : (dropCommand s).hdr = s.hdr := rfl
@[simp] theorem dropCommand_inBuf (s : State) : (dropCommand s).inBuf = s.inBuf := rfl
@[simp] theorem dropCommand_outBuf (s : State) : (dropCommand s).outBuf = s.outBuf := rfl
@[simp] theorem dropCommand_bmp (s : State) : (dropCommand s).bmp = s.bmp := rfl
@[simp] theorem dropCommand_params (s : State) : (dropCommand s).params = s.params := rfl
@[simp] theorem dropCommand_powerOns (s : State) : (dropCommand s).powerOns = s.powerOns := rfl
@[simp] theorem dropCommand_pending (s : State) : (dropCommand s).pending = s.pending := rfl
@[simp] theorem dropCommand_hostData (s : State) : (dropCommand s).hostData = s.hostData := rfl

/-! ### `clearErrors` (47_control R310) -/

@[simp] theorem clearErrors_arg0 (s : State) : (clearErrors s).arg0 = s.arg0 := rfl
@[simp] theorem clearErrors_arg1 (s : State) : (clearErrors s).arg1 = s.arg1 := rfl
@[simp] theorem clearErrors_res0 (s : State) : (clearErrors s).res0 = s.res0 := rfl
@[simp] theorem clearErrors_res1 (s : State) : (clearErrors s).res1 = s.res1 := rfl
@[simp] theorem clearErrors_status (s : State) : (clearErrors s).status = s.status.acknowledge := rfl
@[simp] theorem clearErrors_fmt (s : State) : (clearErrors s).fmt = s.fmt := rfl
@[simp] theorem clearErrors_inLen (s : State) : (clearErrors s).inLen = s.inLen := rfl
@[simp] theorem clearErrors_inPos (s : State) : (clearErrors s).inPos = s.inPos := rfl
@[simp] theorem clearErrors_outLen (s : State) : (clearErrors s).outLen = s.outLen := rfl
@[simp] theorem clearErrors_nibw (s : State) : (clearErrors s).nibw = s.nibw := rfl
@[simp] theorem clearErrors_nibr (s : State) : (clearErrors s).nibr = s.nibr := rfl
@[simp] theorem clearErrors_tileK (s : State) : (clearErrors s).tileK = s.tileK := rfl
@[simp] theorem clearErrors_tileRk (s : State) : (clearErrors s).tileRk = s.tileRk := rfl
@[simp] theorem clearErrors_tileStride (s : State) : (clearErrors s).tileStride = s.tileStride := rfl
@[simp] theorem clearErrors_tileOrigin (s : State) : (clearErrors s).tileOrigin = s.tileOrigin := rfl
@[simp] theorem clearErrors_tbl (s : State) : (clearErrors s).tbl = s.tbl := rfl
@[simp] theorem clearErrors_rt (s : State) : (clearErrors s).rt = s.rt := rfl
@[simp] theorem clearErrors_t3dsCfg (s : State) : (clearErrors s).t3dsCfg = s.t3dsCfg := rfl
@[simp] theorem clearErrors_t3dsW (s : State) : (clearErrors s).t3dsW = s.t3dsW := rfl
@[simp] theorem clearErrors_t3dsH (s : State) : (clearErrors s).t3dsH = s.t3dsH := rfl
@[simp] theorem clearErrors_bmpW (s : State) : (clearErrors s).bmpW = s.bmpW := rfl
@[simp] theorem clearErrors_bmpH (s : State) : (clearErrors s).bmpH = s.bmpH := rfl
@[simp] theorem clearErrors_hdr (s : State) : (clearErrors s).hdr = s.hdr := rfl
@[simp] theorem clearErrors_inBuf (s : State) : (clearErrors s).inBuf = s.inBuf := rfl
@[simp] theorem clearErrors_outBuf (s : State) : (clearErrors s).outBuf = s.outBuf := rfl
@[simp] theorem clearErrors_bmp (s : State) : (clearErrors s).bmp = s.bmp := rfl
@[simp] theorem clearErrors_params (s : State) : (clearErrors s).params = s.params := rfl
@[simp] theorem clearErrors_powerOns (s : State) : (clearErrors s).powerOns = s.powerOns := rfl
@[simp] theorem clearErrors_pending (s : State) : (clearErrors s).pending = s.pending := rfl
@[simp] theorem clearErrors_hostData (s : State) : (clearErrors s).hostData = s.hostData := rfl

/-! ### `appendOut` (42_stream_io R150) -/

@[simp] theorem appendOut_arg0 (s : State) (bs : List Byte) : (appendOut s bs).arg0 = s.arg0 := rfl
@[simp] theorem appendOut_arg1 (s : State) (bs : List Byte) : (appendOut s bs).arg1 = s.arg1 := rfl
@[simp] theorem appendOut_res0 (s : State) (bs : List Byte) : (appendOut s bs).res0 = s.res0 := rfl
@[simp] theorem appendOut_res1 (s : State) (bs : List Byte) : (appendOut s bs).res1 = s.res1 := rfl
@[simp] theorem appendOut_status (s : State) (bs : List Byte) : (appendOut s bs).status = s.status := rfl
@[simp] theorem appendOut_fmt (s : State) (bs : List Byte) : (appendOut s bs).fmt = s.fmt := rfl
@[simp] theorem appendOut_inLen (s : State) (bs : List Byte) : (appendOut s bs).inLen = s.inLen := rfl
@[simp] theorem appendOut_inPos (s : State) (bs : List Byte) : (appendOut s bs).inPos = s.inPos := rfl
@[simp] theorem appendOut_outLen (s : State) (bs : List Byte) : (appendOut s bs).outLen = s.outLen + BitVec.ofNat 32 bs.length := rfl
@[simp] theorem appendOut_nibw (s : State) (bs : List Byte) : (appendOut s bs).nibw = s.nibw := rfl
@[simp] theorem appendOut_nibr (s : State) (bs : List Byte) : (appendOut s bs).nibr = s.nibr := rfl
@[simp] theorem appendOut_tileK (s : State) (bs : List Byte) : (appendOut s bs).tileK = s.tileK := rfl
@[simp] theorem appendOut_tileRk (s : State) (bs : List Byte) : (appendOut s bs).tileRk = s.tileRk := rfl
@[simp] theorem appendOut_tileStride (s : State) (bs : List Byte) : (appendOut s bs).tileStride = s.tileStride := rfl
@[simp] theorem appendOut_tileOrigin (s : State) (bs : List Byte) : (appendOut s bs).tileOrigin = s.tileOrigin := rfl
@[simp] theorem appendOut_tbl (s : State) (bs : List Byte) : (appendOut s bs).tbl = s.tbl := rfl
@[simp] theorem appendOut_rt (s : State) (bs : List Byte) : (appendOut s bs).rt = s.rt := rfl
@[simp] theorem appendOut_t3dsCfg (s : State) (bs : List Byte) : (appendOut s bs).t3dsCfg = s.t3dsCfg := rfl
@[simp] theorem appendOut_t3dsW (s : State) (bs : List Byte) : (appendOut s bs).t3dsW = s.t3dsW := rfl
@[simp] theorem appendOut_t3dsH (s : State) (bs : List Byte) : (appendOut s bs).t3dsH = s.t3dsH := rfl
@[simp] theorem appendOut_bmpW (s : State) (bs : List Byte) : (appendOut s bs).bmpW = s.bmpW := rfl
@[simp] theorem appendOut_bmpH (s : State) (bs : List Byte) : (appendOut s bs).bmpH = s.bmpH := rfl
@[simp] theorem appendOut_hdr (s : State) (bs : List Byte) : (appendOut s bs).hdr = s.hdr := rfl
@[simp] theorem appendOut_inBuf (s : State) (bs : List Byte) : (appendOut s bs).inBuf = s.inBuf := rfl
@[simp] theorem appendOut_outBuf (s : State) (bs : List Byte) : (appendOut s bs).outBuf = Memory.writeBytes s.outBuf s.outLen.toNat bs := rfl
@[simp] theorem appendOut_bmp (s : State) (bs : List Byte) : (appendOut s bs).bmp = s.bmp := rfl
@[simp] theorem appendOut_params (s : State) (bs : List Byte) : (appendOut s bs).params = s.params := rfl
@[simp] theorem appendOut_powerOns (s : State) (bs : List Byte) : (appendOut s bs).powerOns = s.powerOns := rfl
@[simp] theorem appendOut_pending (s : State) (bs : List Byte) : (appendOut s bs).pending = s.pending := rfl
@[simp] theorem appendOut_hostData (s : State) (bs : List Byte) : (appendOut s bs).hostData = s.hostData := rfl

/-! ### `advanceIn` (42_stream_io R150) -/

@[simp] theorem advanceIn_arg0 (s : State) (n : Nat) : (advanceIn s n).arg0 = s.arg0 := rfl
@[simp] theorem advanceIn_arg1 (s : State) (n : Nat) : (advanceIn s n).arg1 = s.arg1 := rfl
@[simp] theorem advanceIn_res0 (s : State) (n : Nat) : (advanceIn s n).res0 = s.res0 := rfl
@[simp] theorem advanceIn_res1 (s : State) (n : Nat) : (advanceIn s n).res1 = s.res1 := rfl
@[simp] theorem advanceIn_status (s : State) (n : Nat) : (advanceIn s n).status = s.status := rfl
@[simp] theorem advanceIn_fmt (s : State) (n : Nat) : (advanceIn s n).fmt = s.fmt := rfl
@[simp] theorem advanceIn_inLen (s : State) (n : Nat) : (advanceIn s n).inLen = s.inLen := rfl
@[simp] theorem advanceIn_inPos (s : State) (n : Nat) : (advanceIn s n).inPos = s.inPos + BitVec.ofNat 32 n := rfl
@[simp] theorem advanceIn_outLen (s : State) (n : Nat) : (advanceIn s n).outLen = s.outLen := rfl
@[simp] theorem advanceIn_nibw (s : State) (n : Nat) : (advanceIn s n).nibw = s.nibw := rfl
@[simp] theorem advanceIn_nibr (s : State) (n : Nat) : (advanceIn s n).nibr = s.nibr := rfl
@[simp] theorem advanceIn_tileK (s : State) (n : Nat) : (advanceIn s n).tileK = s.tileK := rfl
@[simp] theorem advanceIn_tileRk (s : State) (n : Nat) : (advanceIn s n).tileRk = s.tileRk := rfl
@[simp] theorem advanceIn_tileStride (s : State) (n : Nat) : (advanceIn s n).tileStride = s.tileStride := rfl
@[simp] theorem advanceIn_tileOrigin (s : State) (n : Nat) : (advanceIn s n).tileOrigin = s.tileOrigin := rfl
@[simp] theorem advanceIn_tbl (s : State) (n : Nat) : (advanceIn s n).tbl = s.tbl := rfl
@[simp] theorem advanceIn_rt (s : State) (n : Nat) : (advanceIn s n).rt = s.rt := rfl
@[simp] theorem advanceIn_t3dsCfg (s : State) (n : Nat) : (advanceIn s n).t3dsCfg = s.t3dsCfg := rfl
@[simp] theorem advanceIn_t3dsW (s : State) (n : Nat) : (advanceIn s n).t3dsW = s.t3dsW := rfl
@[simp] theorem advanceIn_t3dsH (s : State) (n : Nat) : (advanceIn s n).t3dsH = s.t3dsH := rfl
@[simp] theorem advanceIn_bmpW (s : State) (n : Nat) : (advanceIn s n).bmpW = s.bmpW := rfl
@[simp] theorem advanceIn_bmpH (s : State) (n : Nat) : (advanceIn s n).bmpH = s.bmpH := rfl
@[simp] theorem advanceIn_hdr (s : State) (n : Nat) : (advanceIn s n).hdr = s.hdr := rfl
@[simp] theorem advanceIn_inBuf (s : State) (n : Nat) : (advanceIn s n).inBuf = s.inBuf := rfl
@[simp] theorem advanceIn_outBuf (s : State) (n : Nat) : (advanceIn s n).outBuf = s.outBuf := rfl
@[simp] theorem advanceIn_bmp (s : State) (n : Nat) : (advanceIn s n).bmp = s.bmp := rfl
@[simp] theorem advanceIn_params (s : State) (n : Nat) : (advanceIn s n).params = s.params := rfl
@[simp] theorem advanceIn_powerOns (s : State) (n : Nat) : (advanceIn s n).powerOns = s.powerOns := rfl
@[simp] theorem advanceIn_pending (s : State) (n : Nat) : (advanceIn s n).pending = s.pending := rfl
@[simp] theorem advanceIn_hostData (s : State) (n : Nat) : (advanceIn s n).hostData = s.hostData := rfl

/-! ### `restartOut` (42_stream_io R156) -/

@[simp] theorem restartOut_arg0 (s : State) : (restartOut s).arg0 = s.arg0 := rfl
@[simp] theorem restartOut_arg1 (s : State) : (restartOut s).arg1 = s.arg1 := rfl
@[simp] theorem restartOut_res0 (s : State) : (restartOut s).res0 = s.res0 := rfl
@[simp] theorem restartOut_res1 (s : State) : (restartOut s).res1 = s.res1 := rfl
@[simp] theorem restartOut_status (s : State) : (restartOut s).status = s.status.restartOut := rfl
@[simp] theorem restartOut_fmt (s : State) : (restartOut s).fmt = s.fmt := rfl
@[simp] theorem restartOut_inLen (s : State) : (restartOut s).inLen = s.inLen := rfl
@[simp] theorem restartOut_inPos (s : State) : (restartOut s).inPos = s.inPos := rfl
@[simp] theorem restartOut_outLen (s : State) : (restartOut s).outLen = 0#32 := rfl
@[simp] theorem restartOut_nibw (s : State) : (restartOut s).nibw = 0#4 := rfl
@[simp] theorem restartOut_nibr (s : State) : (restartOut s).nibr = s.nibr := rfl
@[simp] theorem restartOut_tileK (s : State) : (restartOut s).tileK = s.tileK := rfl
@[simp] theorem restartOut_tileRk (s : State) : (restartOut s).tileRk = s.tileRk := rfl
@[simp] theorem restartOut_tileStride (s : State) : (restartOut s).tileStride = s.tileStride := rfl
@[simp] theorem restartOut_tileOrigin (s : State) : (restartOut s).tileOrigin = s.tileOrigin := rfl
@[simp] theorem restartOut_tbl (s : State) : (restartOut s).tbl = s.tbl := rfl
@[simp] theorem restartOut_rt (s : State) : (restartOut s).rt = s.rt := rfl
@[simp] theorem restartOut_t3dsCfg (s : State) : (restartOut s).t3dsCfg = s.t3dsCfg := rfl
@[simp] theorem restartOut_t3dsW (s : State) : (restartOut s).t3dsW = s.t3dsW := rfl
@[simp] theorem restartOut_t3dsH (s : State) : (restartOut s).t3dsH = s.t3dsH := rfl
@[simp] theorem restartOut_bmpW (s : State) : (restartOut s).bmpW = s.bmpW := rfl
@[simp] theorem restartOut_bmpH (s : State) : (restartOut s).bmpH = s.bmpH := rfl
@[simp] theorem restartOut_hdr (s : State) : (restartOut s).hdr = s.hdr := rfl
@[simp] theorem restartOut_inBuf (s : State) : (restartOut s).inBuf = s.inBuf := rfl
@[simp] theorem restartOut_outBuf (s : State) : (restartOut s).outBuf = s.outBuf := rfl
@[simp] theorem restartOut_bmp (s : State) : (restartOut s).bmp = s.bmp := rfl
@[simp] theorem restartOut_params (s : State) : (restartOut s).params = s.params := rfl
@[simp] theorem restartOut_powerOns (s : State) : (restartOut s).powerOns = s.powerOns := rfl
@[simp] theorem restartOut_pending (s : State) : (restartOut s).pending = s.pending := rfl
@[simp] theorem restartOut_hostData (s : State) : (restartOut s).hostData = s.hostData := rfl

/-! ### `reportEnd` (43_pixel_codec R195) -/

@[simp] theorem reportEnd_arg0 (s : State) : (reportEnd s).arg0 = s.arg0 := rfl
@[simp] theorem reportEnd_arg1 (s : State) : (reportEnd s).arg1 = s.arg1 := rfl
@[simp] theorem reportEnd_res0 (s : State) : (reportEnd s).res0 = s.res0 := rfl
@[simp] theorem reportEnd_res1 (s : State) : (reportEnd s).res1 = 0#32 := rfl
@[simp] theorem reportEnd_status (s : State) : (reportEnd s).status = { s.status with endFlag := true } := rfl
@[simp] theorem reportEnd_fmt (s : State) : (reportEnd s).fmt = s.fmt := rfl
@[simp] theorem reportEnd_inLen (s : State) : (reportEnd s).inLen = s.inLen := rfl
@[simp] theorem reportEnd_inPos (s : State) : (reportEnd s).inPos = s.inPos := rfl
@[simp] theorem reportEnd_outLen (s : State) : (reportEnd s).outLen = s.outLen := rfl
@[simp] theorem reportEnd_nibw (s : State) : (reportEnd s).nibw = s.nibw := rfl
@[simp] theorem reportEnd_nibr (s : State) : (reportEnd s).nibr = s.nibr := rfl
@[simp] theorem reportEnd_tileK (s : State) : (reportEnd s).tileK = s.tileK := rfl
@[simp] theorem reportEnd_tileRk (s : State) : (reportEnd s).tileRk = s.tileRk := rfl
@[simp] theorem reportEnd_tileStride (s : State) : (reportEnd s).tileStride = s.tileStride := rfl
@[simp] theorem reportEnd_tileOrigin (s : State) : (reportEnd s).tileOrigin = s.tileOrigin := rfl
@[simp] theorem reportEnd_tbl (s : State) : (reportEnd s).tbl = s.tbl := rfl
@[simp] theorem reportEnd_rt (s : State) : (reportEnd s).rt = s.rt := rfl
@[simp] theorem reportEnd_t3dsCfg (s : State) : (reportEnd s).t3dsCfg = s.t3dsCfg := rfl
@[simp] theorem reportEnd_t3dsW (s : State) : (reportEnd s).t3dsW = s.t3dsW := rfl
@[simp] theorem reportEnd_t3dsH (s : State) : (reportEnd s).t3dsH = s.t3dsH := rfl
@[simp] theorem reportEnd_bmpW (s : State) : (reportEnd s).bmpW = s.bmpW := rfl
@[simp] theorem reportEnd_bmpH (s : State) : (reportEnd s).bmpH = s.bmpH := rfl
@[simp] theorem reportEnd_hdr (s : State) : (reportEnd s).hdr = s.hdr := rfl
@[simp] theorem reportEnd_inBuf (s : State) : (reportEnd s).inBuf = s.inBuf := rfl
@[simp] theorem reportEnd_outBuf (s : State) : (reportEnd s).outBuf = s.outBuf := rfl
@[simp] theorem reportEnd_bmp (s : State) : (reportEnd s).bmp = s.bmp := rfl
@[simp] theorem reportEnd_params (s : State) : (reportEnd s).params = s.params := rfl
@[simp] theorem reportEnd_powerOns (s : State) : (reportEnd s).powerOns = s.powerOns := rfl
@[simp] theorem reportEnd_pending (s : State) : (reportEnd s).pending = s.pending := rfl
@[simp] theorem reportEnd_hostData (s : State) : (reportEnd s).hostData = s.hostData := rfl

/-! ### `restartInAt` (42_stream_io R156, 10_state R39) -/

@[simp] theorem restartInAt_arg0 (p : Word) (s : State) : (restartInAt p s).arg0 = s.arg0 := rfl
@[simp] theorem restartInAt_arg1 (p : Word) (s : State) : (restartInAt p s).arg1 = s.arg1 := rfl
@[simp] theorem restartInAt_res0 (p : Word) (s : State) : (restartInAt p s).res0 = s.res0 := rfl
@[simp] theorem restartInAt_res1 (p : Word) (s : State) : (restartInAt p s).res1 = s.res1 := rfl
@[simp] theorem restartInAt_status (p : Word) (s : State) : (restartInAt p s).status = s.status.restartIn := rfl
@[simp] theorem restartInAt_fmt (p : Word) (s : State) : (restartInAt p s).fmt = s.fmt := rfl
@[simp] theorem restartInAt_inLen (p : Word) (s : State) : (restartInAt p s).inLen = s.inLen := rfl
@[simp] theorem restartInAt_inPos (p : Word) (s : State) : (restartInAt p s).inPos = p := rfl
@[simp] theorem restartInAt_outLen (p : Word) (s : State) : (restartInAt p s).outLen = s.outLen := rfl
@[simp] theorem restartInAt_nibw (p : Word) (s : State) : (restartInAt p s).nibw = s.nibw := rfl
@[simp] theorem restartInAt_nibr (p : Word) (s : State) : (restartInAt p s).nibr = 0#4 := rfl
@[simp] theorem restartInAt_tileK (p : Word) (s : State) : (restartInAt p s).tileK = s.tileK := rfl
@[simp] theorem restartInAt_tileRk (p : Word) (s : State) : (restartInAt p s).tileRk = s.tileRk := rfl
@[simp] theorem restartInAt_tileStride (p : Word) (s : State) : (restartInAt p s).tileStride = s.tileStride := rfl
@[simp] theorem restartInAt_tileOrigin (p : Word) (s : State) : (restartInAt p s).tileOrigin = s.tileOrigin := rfl
@[simp] theorem restartInAt_tbl (p : Word) (s : State) : (restartInAt p s).tbl = s.tbl := rfl
@[simp] theorem restartInAt_rt (p : Word) (s : State) : (restartInAt p s).rt = s.rt := rfl
@[simp] theorem restartInAt_t3dsCfg (p : Word) (s : State) : (restartInAt p s).t3dsCfg = s.t3dsCfg := rfl
@[simp] theorem restartInAt_t3dsW (p : Word) (s : State) : (restartInAt p s).t3dsW = s.t3dsW := rfl
@[simp] theorem restartInAt_t3dsH (p : Word) (s : State) : (restartInAt p s).t3dsH = s.t3dsH := rfl
@[simp] theorem restartInAt_bmpW (p : Word) (s : State) : (restartInAt p s).bmpW = s.bmpW := rfl
@[simp] theorem restartInAt_bmpH (p : Word) (s : State) : (restartInAt p s).bmpH = s.bmpH := rfl
@[simp] theorem restartInAt_hdr (p : Word) (s : State) : (restartInAt p s).hdr = s.hdr := rfl
@[simp] theorem restartInAt_inBuf (p : Word) (s : State) : (restartInAt p s).inBuf = s.inBuf := rfl
@[simp] theorem restartInAt_outBuf (p : Word) (s : State) : (restartInAt p s).outBuf = s.outBuf := rfl
@[simp] theorem restartInAt_bmp (p : Word) (s : State) : (restartInAt p s).bmp = s.bmp := rfl
@[simp] theorem restartInAt_params (p : Word) (s : State) : (restartInAt p s).params = s.params := rfl
@[simp] theorem restartInAt_powerOns (p : Word) (s : State) : (restartInAt p s).powerOns = s.powerOns := rfl
@[simp] theorem restartInAt_pending (p : Word) (s : State) : (restartInAt p s).pending = s.pending := rfl
@[simp] theorem restartInAt_hostData (p : Word) (s : State) : (restartInAt p s).hostData = s.hostData := rfl

/-! ### `activate` (43_pixel_codec R186, R187) -/

@[simp] theorem activate_arg0 (w : Word) (s : State) : (activate w s).arg0 = s.arg0 := rfl
@[simp] theorem activate_arg1 (w : Word) (s : State) : (activate w s).arg1 = s.arg1 := rfl
@[simp] theorem activate_res0 (w : Word) (s : State) : (activate w s).res0 = s.res0 := rfl
@[simp] theorem activate_res1 (w : Word) (s : State) : (activate w s).res1 = s.res1 := rfl
@[simp] theorem activate_status (w : Word) (s : State) : (activate w s).status = { s.status with fmtValid := true } := rfl
@[simp] theorem activate_fmt (w : Word) (s : State) : (activate w s).fmt = w := rfl
@[simp] theorem activate_inLen (w : Word) (s : State) : (activate w s).inLen = s.inLen := rfl
@[simp] theorem activate_inPos (w : Word) (s : State) : (activate w s).inPos = s.inPos := rfl
@[simp] theorem activate_outLen (w : Word) (s : State) : (activate w s).outLen = s.outLen := rfl
@[simp] theorem activate_nibw (w : Word) (s : State) : (activate w s).nibw = s.nibw := rfl
@[simp] theorem activate_nibr (w : Word) (s : State) : (activate w s).nibr = s.nibr := rfl
@[simp] theorem activate_tileK (w : Word) (s : State) : (activate w s).tileK = s.tileK := rfl
@[simp] theorem activate_tileRk (w : Word) (s : State) : (activate w s).tileRk = s.tileRk := rfl
@[simp] theorem activate_tileStride (w : Word) (s : State) : (activate w s).tileStride = s.tileStride := rfl
@[simp] theorem activate_tileOrigin (w : Word) (s : State) : (activate w s).tileOrigin = s.tileOrigin := rfl
@[simp] theorem activate_tbl (w : Word) (s : State) : (activate w s).tbl = s.tbl := rfl
@[simp] theorem activate_rt (w : Word) (s : State) : (activate w s).rt = s.rt := rfl
@[simp] theorem activate_t3dsCfg (w : Word) (s : State) : (activate w s).t3dsCfg = s.t3dsCfg := rfl
@[simp] theorem activate_t3dsW (w : Word) (s : State) : (activate w s).t3dsW = s.t3dsW := rfl
@[simp] theorem activate_t3dsH (w : Word) (s : State) : (activate w s).t3dsH = s.t3dsH := rfl
@[simp] theorem activate_bmpW (w : Word) (s : State) : (activate w s).bmpW = s.bmpW := rfl
@[simp] theorem activate_bmpH (w : Word) (s : State) : (activate w s).bmpH = s.bmpH := rfl
@[simp] theorem activate_hdr (w : Word) (s : State) : (activate w s).hdr = s.hdr := rfl
@[simp] theorem activate_inBuf (w : Word) (s : State) : (activate w s).inBuf = s.inBuf := rfl
@[simp] theorem activate_outBuf (w : Word) (s : State) : (activate w s).outBuf = s.outBuf := rfl
@[simp] theorem activate_bmp (w : Word) (s : State) : (activate w s).bmp = s.bmp := rfl
@[simp] theorem activate_params (w : Word) (s : State) : (activate w s).params = s.params := rfl
@[simp] theorem activate_powerOns (w : Word) (s : State) : (activate w s).powerOns = s.powerOns := rfl
@[simp] theorem activate_pending (w : Word) (s : State) : (activate w s).pending = s.pending := rfl
@[simp] theorem activate_hostData (w : Word) (s : State) : (activate w s).hostData = s.hostData := rfl

/-! ### `deliverPixel` (43_pixel_codec R195) -/

@[simp] theorem deliverPixel_arg0 (c : Word) (s : State) : (deliverPixel c s).arg0 = s.arg0 := rfl
@[simp] theorem deliverPixel_arg1 (c : Word) (s : State) : (deliverPixel c s).arg1 = s.arg1 := rfl
@[simp] theorem deliverPixel_res0 (c : Word) (s : State) : (deliverPixel c s).res0 = c := rfl
@[simp] theorem deliverPixel_res1 (c : Word) (s : State) : (deliverPixel c s).res1 = 1#32 := rfl
@[simp] theorem deliverPixel_status (c : Word) (s : State) : (deliverPixel c s).status = { s.status with endFlag := false } := rfl
@[simp] theorem deliverPixel_fmt (c : Word) (s : State) : (deliverPixel c s).fmt = s.fmt := rfl
@[simp] theorem deliverPixel_inLen (c : Word) (s : State) : (deliverPixel c s).inLen = s.inLen := rfl
@[simp] theorem deliverPixel_inPos (c : Word) (s : State) : (deliverPixel c s).inPos = s.inPos := rfl
@[simp] theorem deliverPixel_outLen (c : Word) (s : State) : (deliverPixel c s).outLen = s.outLen := rfl
@[simp] theorem deliverPixel_nibw (c : Word) (s : State) : (deliverPixel c s).nibw = s.nibw := rfl
@[simp] theorem deliverPixel_nibr (c : Word) (s : State) : (deliverPixel c s).nibr = s.nibr := rfl
@[simp] theorem deliverPixel_tileK (c : Word) (s : State) : (deliverPixel c s).tileK = s.tileK := rfl
@[simp] theorem deliverPixel_tileRk (c : Word) (s : State) : (deliverPixel c s).tileRk = s.tileRk := rfl
@[simp] theorem deliverPixel_tileStride (c : Word) (s : State) : (deliverPixel c s).tileStride = s.tileStride := rfl
@[simp] theorem deliverPixel_tileOrigin (c : Word) (s : State) : (deliverPixel c s).tileOrigin = s.tileOrigin := rfl
@[simp] theorem deliverPixel_tbl (c : Word) (s : State) : (deliverPixel c s).tbl = s.tbl := rfl
@[simp] theorem deliverPixel_rt (c : Word) (s : State) : (deliverPixel c s).rt = s.rt := rfl
@[simp] theorem deliverPixel_t3dsCfg (c : Word) (s : State) : (deliverPixel c s).t3dsCfg = s.t3dsCfg := rfl
@[simp] theorem deliverPixel_t3dsW (c : Word) (s : State) : (deliverPixel c s).t3dsW = s.t3dsW := rfl
@[simp] theorem deliverPixel_t3dsH (c : Word) (s : State) : (deliverPixel c s).t3dsH = s.t3dsH := rfl
@[simp] theorem deliverPixel_bmpW (c : Word) (s : State) : (deliverPixel c s).bmpW = s.bmpW := rfl
@[simp] theorem deliverPixel_bmpH (c : Word) (s : State) : (deliverPixel c s).bmpH = s.bmpH := rfl
@[simp] theorem deliverPixel_hdr (c : Word) (s : State) : (deliverPixel c s).hdr = s.hdr := rfl
@[simp] theorem deliverPixel_inBuf (c : Word) (s : State) : (deliverPixel c s).inBuf = s.inBuf := rfl
@[simp] theorem deliverPixel_outBuf (c : Word) (s : State) : (deliverPixel c s).outBuf = s.outBuf := rfl
@[simp] theorem deliverPixel_bmp (c : Word) (s : State) : (deliverPixel c s).bmp = s.bmp := rfl
@[simp] theorem deliverPixel_params (c : Word) (s : State) : (deliverPixel c s).params = s.params := rfl
@[simp] theorem deliverPixel_powerOns (c : Word) (s : State) : (deliverPixel c s).powerOns = s.powerOns := rfl
@[simp] theorem deliverPixel_pending (c : Word) (s : State) : (deliverPixel c s).pending = s.pending := rfl
@[simp] theorem deliverPixel_hostData (c : Word) (s : State) : (deliverPixel c s).hostData = s.hostData := rfl

/-! ### `commitLoad` (46_container R284) -/

@[simp] theorem commitLoad_arg0 (s : State) (j : Job) (m : Memory) (k : Nat) : (commitLoad s j m k).arg0 = s.arg0 := rfl
@[simp] theorem commitLoad_arg1 (s : State) (j : Job) (m : Memory) (k : Nat) : (commitLoad s j m k).arg1 = s.arg1 := rfl
@[simp] theorem commitLoad_res0 (s : State) (j : Job) (m : Memory) (k : Nat) : (commitLoad s j m k).res0 = BitVec.ofNat 32 k := rfl
@[simp] theorem commitLoad_res1 (s : State) (j : Job) (m : Memory) (k : Nat) : (commitLoad s j m k).res1 = s.res1 := rfl
@[simp] theorem commitLoad_status (s : State) (j : Job) (m : Memory) (k : Nat) : (commitLoad s j m k).status = { s.status with hdrValid := true, short := decide (k < j.pixels) } := rfl
@[simp] theorem commitLoad_fmt (s : State) (j : Job) (m : Memory) (k : Nat) : (commitLoad s j m k).fmt = s.fmt := rfl
@[simp] theorem commitLoad_inLen (s : State) (j : Job) (m : Memory) (k : Nat) : (commitLoad s j m k).inLen = s.inLen := rfl
@[simp] theorem commitLoad_inPos (s : State) (j : Job) (m : Memory) (k : Nat) : (commitLoad s j m k).inPos = s.inPos := rfl
@[simp] theorem commitLoad_outLen (s : State) (j : Job) (m : Memory) (k : Nat) : (commitLoad s j m k).outLen = s.outLen := rfl
@[simp] theorem commitLoad_nibw (s : State) (j : Job) (m : Memory) (k : Nat) : (commitLoad s j m k).nibw = s.nibw := rfl
@[simp] theorem commitLoad_nibr (s : State) (j : Job) (m : Memory) (k : Nat) : (commitLoad s j m k).nibr = s.nibr := rfl
@[simp] theorem commitLoad_tileK (s : State) (j : Job) (m : Memory) (k : Nat) : (commitLoad s j m k).tileK = s.tileK := rfl
@[simp] theorem commitLoad_tileRk (s : State) (j : Job) (m : Memory) (k : Nat) : (commitLoad s j m k).tileRk = s.tileRk := rfl
@[simp] theorem commitLoad_tileStride (s : State) (j : Job) (m : Memory) (k : Nat) : (commitLoad s j m k).tileStride = s.tileStride := rfl
@[simp] theorem commitLoad_tileOrigin (s : State) (j : Job) (m : Memory) (k : Nat) : (commitLoad s j m k).tileOrigin = s.tileOrigin := rfl
@[simp] theorem commitLoad_tbl (s : State) (j : Job) (m : Memory) (k : Nat) : (commitLoad s j m k).tbl = s.tbl := rfl
@[simp] theorem commitLoad_rt (s : State) (j : Job) (m : Memory) (k : Nat) : (commitLoad s j m k).rt = s.rt := rfl
@[simp] theorem commitLoad_t3dsCfg (s : State) (j : Job) (m : Memory) (k : Nat) : (commitLoad s j m k).t3dsCfg = s.t3dsCfg := rfl
@[simp] theorem commitLoad_t3dsW (s : State) (j : Job) (m : Memory) (k : Nat) : (commitLoad s j m k).t3dsW = s.t3dsW := rfl
@[simp] theorem commitLoad_t3dsH (s : State) (j : Job) (m : Memory) (k : Nat) : (commitLoad s j m k).t3dsH = s.t3dsH := rfl
@[simp] theorem commitLoad_bmpW (s : State) (j : Job) (m : Memory) (k : Nat) : (commitLoad s j m k).bmpW = BitVec.ofNat 16 j.width := rfl
@[simp] theorem commitLoad_bmpH (s : State) (j : Job) (m : Memory) (k : Nat) : (commitLoad s j m k).bmpH = BitVec.ofNat 16 j.height := rfl
@[simp] theorem commitLoad_hdr (s : State) (j : Job) (m : Memory) (k : Nat) : (commitLoad s j m k).hdr = inHeader s := rfl
@[simp] theorem commitLoad_inBuf (s : State) (j : Job) (m : Memory) (k : Nat) : (commitLoad s j m k).inBuf = s.inBuf := rfl
@[simp] theorem commitLoad_outBuf (s : State) (j : Job) (m : Memory) (k : Nat) : (commitLoad s j m k).outBuf = s.outBuf := rfl
@[simp] theorem commitLoad_bmp (s : State) (j : Job) (m : Memory) (k : Nat) : (commitLoad s j m k).bmp = m := rfl
@[simp] theorem commitLoad_params (s : State) (j : Job) (m : Memory) (k : Nat) : (commitLoad s j m k).params = s.params := rfl
@[simp] theorem commitLoad_powerOns (s : State) (j : Job) (m : Memory) (k : Nat) : (commitLoad s j m k).powerOns = s.powerOns := rfl
@[simp] theorem commitLoad_pending (s : State) (j : Job) (m : Memory) (k : Nat) : (commitLoad s j m k).pending = s.pending := rfl
@[simp] theorem commitLoad_hostData (s : State) (j : Job) (m : Memory) (k : Nat) : (commitLoad s j m k).hostData = s.hostData := rfl

/-! ### `commitSave` (46_container R285) -/

@[simp] theorem commitSave_arg0 (s : State) (bs : List Byte) (d : Bool) : (commitSave s bs d).arg0 = s.arg0 := rfl
@[simp] theorem commitSave_arg1 (s : State) (bs : List Byte) (d : Bool) : (commitSave s bs d).arg1 = s.arg1 := rfl
@[simp] theorem commitSave_res0 (s : State) (bs : List Byte) (d : Bool) : (commitSave s bs d).res0 = s.res0 := rfl
@[simp] theorem commitSave_res1 (s : State) (bs : List Byte) (d : Bool) : (commitSave s bs d).res1 = s.res1 := rfl
@[simp] theorem commitSave_status (s : State) (bs : List Byte) (d : Bool) : (commitSave s bs d).status = { s.status with nibDrop := s.status.nibDrop || d || s.status.nibwPend, nibwPend := false } := rfl
@[simp] theorem commitSave_fmt (s : State) (bs : List Byte) (d : Bool) : (commitSave s bs d).fmt = s.fmt := rfl
@[simp] theorem commitSave_inLen (s : State) (bs : List Byte) (d : Bool) : (commitSave s bs d).inLen = s.inLen := rfl
@[simp] theorem commitSave_inPos (s : State) (bs : List Byte) (d : Bool) : (commitSave s bs d).inPos = s.inPos := rfl
@[simp] theorem commitSave_outLen (s : State) (bs : List Byte) (d : Bool) : (commitSave s bs d).outLen = BitVec.ofNat 32 bs.length := rfl
@[simp] theorem commitSave_nibw (s : State) (bs : List Byte) (d : Bool) : (commitSave s bs d).nibw = 0#4 := rfl
@[simp] theorem commitSave_nibr (s : State) (bs : List Byte) (d : Bool) : (commitSave s bs d).nibr = s.nibr := rfl
@[simp] theorem commitSave_tileK (s : State) (bs : List Byte) (d : Bool) : (commitSave s bs d).tileK = s.tileK := rfl
@[simp] theorem commitSave_tileRk (s : State) (bs : List Byte) (d : Bool) : (commitSave s bs d).tileRk = s.tileRk := rfl
@[simp] theorem commitSave_tileStride (s : State) (bs : List Byte) (d : Bool) : (commitSave s bs d).tileStride = s.tileStride := rfl
@[simp] theorem commitSave_tileOrigin (s : State) (bs : List Byte) (d : Bool) : (commitSave s bs d).tileOrigin = s.tileOrigin := rfl
@[simp] theorem commitSave_tbl (s : State) (bs : List Byte) (d : Bool) : (commitSave s bs d).tbl = s.tbl := rfl
@[simp] theorem commitSave_rt (s : State) (bs : List Byte) (d : Bool) : (commitSave s bs d).rt = s.rt := rfl
@[simp] theorem commitSave_t3dsCfg (s : State) (bs : List Byte) (d : Bool) : (commitSave s bs d).t3dsCfg = s.t3dsCfg := rfl
@[simp] theorem commitSave_t3dsW (s : State) (bs : List Byte) (d : Bool) : (commitSave s bs d).t3dsW = s.t3dsW := rfl
@[simp] theorem commitSave_t3dsH (s : State) (bs : List Byte) (d : Bool) : (commitSave s bs d).t3dsH = s.t3dsH := rfl
@[simp] theorem commitSave_bmpW (s : State) (bs : List Byte) (d : Bool) : (commitSave s bs d).bmpW = s.bmpW := rfl
@[simp] theorem commitSave_bmpH (s : State) (bs : List Byte) (d : Bool) : (commitSave s bs d).bmpH = s.bmpH := rfl
@[simp] theorem commitSave_hdr (s : State) (bs : List Byte) (d : Bool) : (commitSave s bs d).hdr = s.hdr := rfl
@[simp] theorem commitSave_inBuf (s : State) (bs : List Byte) (d : Bool) : (commitSave s bs d).inBuf = s.inBuf := rfl
@[simp] theorem commitSave_outBuf (s : State) (bs : List Byte) (d : Bool) : (commitSave s bs d).outBuf = Memory.writeBytes s.outBuf 0 bs := rfl
@[simp] theorem commitSave_bmp (s : State) (bs : List Byte) (d : Bool) : (commitSave s bs d).bmp = s.bmp := rfl
@[simp] theorem commitSave_params (s : State) (bs : List Byte) (d : Bool) : (commitSave s bs d).params = s.params := rfl
@[simp] theorem commitSave_powerOns (s : State) (bs : List Byte) (d : Bool) : (commitSave s bs d).powerOns = s.powerOns := rfl
@[simp] theorem commitSave_pending (s : State) (bs : List Byte) (d : Bool) : (commitSave s bs d).pending = s.pending := rfl
@[simp] theorem commitSave_hostData (s : State) (bs : List Byte) (d : Bool) : (commitSave s bs d).hostData = s.hostData := rfl

/-! ### `errorEntry` (60_exceptions R323): RES0 and RES1 are kept for every error but VALIDATION and BOUNDS -/

@[simp] theorem errorEntry_arg0 (op : BitVec 8) (e : CmdError) (s : State) :
    (errorEntry op e s).arg0 = s.arg0 := by cases e <;> rfl
@[simp] theorem errorEntry_arg1 (op : BitVec 8) (e : CmdError) (s : State) :
    (errorEntry op e s).arg1 = s.arg1 := by cases e <;> rfl
@[simp] theorem errorEntry_status (op : BitVec 8) (e : CmdError) (s : State) :
    (errorEntry op e s).status = s.status.recordError e.code op := by cases e <;> rfl
@[simp] theorem errorEntry_fmt (op : BitVec 8) (e : CmdError) (s : State) :
    (errorEntry op e s).fmt = s.fmt := by cases e <;> rfl
@[simp] theorem errorEntry_inLen (op : BitVec 8) (e : CmdError) (s : State) :
    (errorEntry op e s).inLen = s.inLen := by cases e <;> rfl
@[simp] theorem errorEntry_inPos (op : BitVec 8) (e : CmdError) (s : State) :
    (errorEntry op e s).inPos = s.inPos := by cases e <;> rfl
@[simp] theorem errorEntry_outLen (op : BitVec 8) (e : CmdError) (s : State) :
    (errorEntry op e s).outLen = s.outLen := by cases e <;> rfl
@[simp] theorem errorEntry_nibw (op : BitVec 8) (e : CmdError) (s : State) :
    (errorEntry op e s).nibw = s.nibw := by cases e <;> rfl
@[simp] theorem errorEntry_nibr (op : BitVec 8) (e : CmdError) (s : State) :
    (errorEntry op e s).nibr = s.nibr := by cases e <;> rfl
@[simp] theorem errorEntry_tileK (op : BitVec 8) (e : CmdError) (s : State) :
    (errorEntry op e s).tileK = s.tileK := by cases e <;> rfl
@[simp] theorem errorEntry_tileRk (op : BitVec 8) (e : CmdError) (s : State) :
    (errorEntry op e s).tileRk = s.tileRk := by cases e <;> rfl
@[simp] theorem errorEntry_tileStride (op : BitVec 8) (e : CmdError) (s : State) :
    (errorEntry op e s).tileStride = s.tileStride := by cases e <;> rfl
@[simp] theorem errorEntry_tileOrigin (op : BitVec 8) (e : CmdError) (s : State) :
    (errorEntry op e s).tileOrigin = s.tileOrigin := by cases e <;> rfl
@[simp] theorem errorEntry_tbl (op : BitVec 8) (e : CmdError) (s : State) :
    (errorEntry op e s).tbl = s.tbl := by cases e <;> rfl
@[simp] theorem errorEntry_rt (op : BitVec 8) (e : CmdError) (s : State) :
    (errorEntry op e s).rt = s.rt := by cases e <;> rfl
@[simp] theorem errorEntry_t3dsCfg (op : BitVec 8) (e : CmdError) (s : State) :
    (errorEntry op e s).t3dsCfg = s.t3dsCfg := by cases e <;> rfl
@[simp] theorem errorEntry_t3dsW (op : BitVec 8) (e : CmdError) (s : State) :
    (errorEntry op e s).t3dsW = s.t3dsW := by cases e <;> rfl
@[simp] theorem errorEntry_t3dsH (op : BitVec 8) (e : CmdError) (s : State) :
    (errorEntry op e s).t3dsH = s.t3dsH := by cases e <;> rfl
@[simp] theorem errorEntry_bmpW (op : BitVec 8) (e : CmdError) (s : State) :
    (errorEntry op e s).bmpW = s.bmpW := by cases e <;> rfl
@[simp] theorem errorEntry_bmpH (op : BitVec 8) (e : CmdError) (s : State) :
    (errorEntry op e s).bmpH = s.bmpH := by cases e <;> rfl
@[simp] theorem errorEntry_hdr (op : BitVec 8) (e : CmdError) (s : State) :
    (errorEntry op e s).hdr = s.hdr := by cases e <;> rfl
@[simp] theorem errorEntry_inBuf (op : BitVec 8) (e : CmdError) (s : State) :
    (errorEntry op e s).inBuf = s.inBuf := by cases e <;> rfl
@[simp] theorem errorEntry_outBuf (op : BitVec 8) (e : CmdError) (s : State) :
    (errorEntry op e s).outBuf = s.outBuf := by cases e <;> rfl
@[simp] theorem errorEntry_bmp (op : BitVec 8) (e : CmdError) (s : State) :
    (errorEntry op e s).bmp = s.bmp := by cases e <;> rfl
@[simp] theorem errorEntry_params (op : BitVec 8) (e : CmdError) (s : State) :
    (errorEntry op e s).params = s.params := by cases e <;> rfl
@[simp] theorem errorEntry_powerOns (op : BitVec 8) (e : CmdError) (s : State) :
    (errorEntry op e s).powerOns = s.powerOns := by cases e <;> rfl
@[simp] theorem errorEntry_pending (op : BitVec 8) (e : CmdError) (s : State) :
    (errorEntry op e s).pending = s.pending := by cases e <;> rfl
@[simp] theorem errorEntry_hostData (op : BitVec 8) (e : CmdError) (s : State) :
    (errorEntry op e s).hostData = s.hostData := by cases e <;> rfl

/-! ### `resetRegisters` and `powerOnReset` (70_reset R350) -/

@[simp] theorem resetRegisters_arg0 (s : State) : (resetRegisters s).arg0 = State.reset.arg0 := rfl
@[simp] theorem resetRegisters_arg1 (s : State) : (resetRegisters s).arg1 = State.reset.arg1 := rfl
@[simp] theorem resetRegisters_res0 (s : State) : (resetRegisters s).res0 = State.reset.res0 := rfl
@[simp] theorem resetRegisters_res1 (s : State) : (resetRegisters s).res1 = State.reset.res1 := rfl
@[simp] theorem resetRegisters_status (s : State) : (resetRegisters s).status = State.reset.status := rfl
@[simp] theorem resetRegisters_fmt (s : State) : (resetRegisters s).fmt = State.reset.fmt := rfl
@[simp] theorem resetRegisters_inLen (s : State) : (resetRegisters s).inLen = State.reset.inLen := rfl
@[simp] theorem resetRegisters_inPos (s : State) : (resetRegisters s).inPos = State.reset.inPos := rfl
@[simp] theorem resetRegisters_outLen (s : State) : (resetRegisters s).outLen = State.reset.outLen := rfl
@[simp] theorem resetRegisters_nibw (s : State) : (resetRegisters s).nibw = State.reset.nibw := rfl
@[simp] theorem resetRegisters_nibr (s : State) : (resetRegisters s).nibr = State.reset.nibr := rfl
@[simp] theorem resetRegisters_tileK (s : State) : (resetRegisters s).tileK = State.reset.tileK := rfl
@[simp] theorem resetRegisters_tileRk (s : State) : (resetRegisters s).tileRk = State.reset.tileRk := rfl
@[simp] theorem resetRegisters_tileStride (s : State) : (resetRegisters s).tileStride = State.reset.tileStride := rfl
@[simp] theorem resetRegisters_tileOrigin (s : State) : (resetRegisters s).tileOrigin = State.reset.tileOrigin := rfl
@[simp] theorem resetRegisters_tbl (s : State) : (resetRegisters s).tbl = State.reset.tbl := rfl
@[simp] theorem resetRegisters_rt (s : State) : (resetRegisters s).rt = State.reset.rt := rfl
@[simp] theorem resetRegisters_t3dsCfg (s : State) : (resetRegisters s).t3dsCfg = State.reset.t3dsCfg := rfl
@[simp] theorem resetRegisters_t3dsW (s : State) : (resetRegisters s).t3dsW = State.reset.t3dsW := rfl
@[simp] theorem resetRegisters_t3dsH (s : State) : (resetRegisters s).t3dsH = State.reset.t3dsH := rfl
@[simp] theorem resetRegisters_bmpW (s : State) : (resetRegisters s).bmpW = State.reset.bmpW := rfl
@[simp] theorem resetRegisters_bmpH (s : State) : (resetRegisters s).bmpH = State.reset.bmpH := rfl
@[simp] theorem resetRegisters_hdr (s : State) : (resetRegisters s).hdr = State.reset.hdr := rfl
@[simp] theorem resetRegisters_inBuf (s : State) : (resetRegisters s).inBuf = s.inBuf := rfl
@[simp] theorem resetRegisters_outBuf (s : State) : (resetRegisters s).outBuf = s.outBuf := rfl
@[simp] theorem resetRegisters_bmp (s : State) : (resetRegisters s).bmp = s.bmp := rfl
@[simp] theorem resetRegisters_params (s : State) : (resetRegisters s).params = s.params := rfl
@[simp] theorem resetRegisters_powerOns (s : State) : (resetRegisters s).powerOns = s.powerOns := rfl
@[simp] theorem resetRegisters_pending (s : State) : (resetRegisters s).pending = s.pending := rfl
@[simp] theorem resetRegisters_hostData (s : State) : (resetRegisters s).hostData = s.hostData := rfl
@[simp] theorem powerOnReset_arg0 (s : State) : (powerOnReset s).arg0 = State.reset.arg0 := rfl
@[simp] theorem powerOnReset_arg1 (s : State) : (powerOnReset s).arg1 = State.reset.arg1 := rfl
@[simp] theorem powerOnReset_res0 (s : State) : (powerOnReset s).res0 = State.reset.res0 := rfl
@[simp] theorem powerOnReset_res1 (s : State) : (powerOnReset s).res1 = State.reset.res1 := rfl
@[simp] theorem powerOnReset_status (s : State) : (powerOnReset s).status = State.reset.status := rfl
@[simp] theorem powerOnReset_fmt (s : State) : (powerOnReset s).fmt = State.reset.fmt := rfl
@[simp] theorem powerOnReset_inLen (s : State) : (powerOnReset s).inLen = State.reset.inLen := rfl
@[simp] theorem powerOnReset_inPos (s : State) : (powerOnReset s).inPos = State.reset.inPos := rfl
@[simp] theorem powerOnReset_outLen (s : State) : (powerOnReset s).outLen = State.reset.outLen := rfl
@[simp] theorem powerOnReset_nibw (s : State) : (powerOnReset s).nibw = State.reset.nibw := rfl
@[simp] theorem powerOnReset_nibr (s : State) : (powerOnReset s).nibr = State.reset.nibr := rfl
@[simp] theorem powerOnReset_tileK (s : State) : (powerOnReset s).tileK = State.reset.tileK := rfl
@[simp] theorem powerOnReset_tileRk (s : State) : (powerOnReset s).tileRk = State.reset.tileRk := rfl
@[simp] theorem powerOnReset_tileStride (s : State) : (powerOnReset s).tileStride = State.reset.tileStride := rfl
@[simp] theorem powerOnReset_tileOrigin (s : State) : (powerOnReset s).tileOrigin = State.reset.tileOrigin := rfl
@[simp] theorem powerOnReset_tbl (s : State) : (powerOnReset s).tbl = State.reset.tbl := rfl
@[simp] theorem powerOnReset_rt (s : State) : (powerOnReset s).rt = State.reset.rt := rfl
@[simp] theorem powerOnReset_t3dsCfg (s : State) : (powerOnReset s).t3dsCfg = State.reset.t3dsCfg := rfl
@[simp] theorem powerOnReset_t3dsW (s : State) : (powerOnReset s).t3dsW = State.reset.t3dsW := rfl
@[simp] theorem powerOnReset_t3dsH (s : State) : (powerOnReset s).t3dsH = State.reset.t3dsH := rfl
@[simp] theorem powerOnReset_bmpW (s : State) : (powerOnReset s).bmpW = State.reset.bmpW := rfl
@[simp] theorem powerOnReset_bmpH (s : State) : (powerOnReset s).bmpH = State.reset.bmpH := rfl
@[simp] theorem powerOnReset_hdr (s : State) : (powerOnReset s).hdr = State.reset.hdr := rfl
@[simp] theorem powerOnReset_inBuf (s : State) : (powerOnReset s).inBuf = [] := rfl
@[simp] theorem powerOnReset_outBuf (s : State) : (powerOnReset s).outBuf = [] := rfl
@[simp] theorem powerOnReset_bmp (s : State) : (powerOnReset s).bmp = [] := rfl
@[simp] theorem powerOnReset_params (s : State) : (powerOnReset s).params = s.params := rfl
@[simp] theorem powerOnReset_powerOns (s : State) : (powerOnReset s).powerOns = s.powerOns + 1 := rfl
@[simp] theorem powerOnReset_pending (s : State) : (powerOnReset s).pending = s.pending := rfl
@[simp] theorem powerOnReset_hostData (s : State) : (powerOnReset s).hostData = s.hostData := rfl

/-! ### `Status.recordError` (60_exceptions R323) -/

@[simp] theorem Status.recordError_fmtValid (f : Status) (e : ErrCode) (op : BitVec 8) : (f.recordError e op).fmtValid = f.fmtValid := rfl
@[simp] theorem Status.recordError_t3dsValid (f : Status) (e : ErrCode) (op : BitVec 8) : (f.recordError e op).t3dsValid = f.t3dsValid := rfl
@[simp] theorem Status.recordError_hdrValid (f : Status) (e : ErrCode) (op : BitVec 8) : (f.recordError e op).hdrValid = f.hdrValid := rfl
@[simp] theorem Status.recordError_endFlag (f : Status) (e : ErrCode) (op : BitVec 8) : (f.recordError e op).endFlag = f.endFlag := rfl
@[simp] theorem Status.recordError_nibwPend (f : Status) (e : ErrCode) (op : BitVec 8) : (f.recordError e op).nibwPend = f.nibwPend := rfl
@[simp] theorem Status.recordError_nibrPend (f : Status) (e : ErrCode) (op : BitVec 8) : (f.recordError e op).nibrPend = f.nibrPend := rfl
@[simp] theorem Status.recordError_nibDrop (f : Status) (e : ErrCode) (op : BitVec 8) : (f.recordError e op).nibDrop = f.nibDrop := rfl
@[simp] theorem Status.recordError_short (f : Status) (e : ErrCode) (op : BitVec 8) : (f.recordError e op).short = f.short := rfl
@[simp] theorem Status.recordError_dropped (f : Status) (e : ErrCode) (op : BitVec 8) : (f.recordError e op).dropped = f.dropped := rfl
@[simp] theorem Status.recordError_err (f : Status) (e : ErrCode) (op : BitVec 8) : (f.recordError e op).err = e := rfl
@[simp] theorem Status.recordError_errOp (f : Status) (e : ErrCode) (op : BitVec 8) : (f.recordError e op).errOp = op := rfl

/-! ### `Status.acknowledge` (47_control R310) -/

@[simp] theorem Status.acknowledge_fmtValid (f : Status) : (f.acknowledge).fmtValid = f.fmtValid := rfl
@[simp] theorem Status.acknowledge_t3dsValid (f : Status) : (f.acknowledge).t3dsValid = f.t3dsValid := rfl
@[simp] theorem Status.acknowledge_hdrValid (f : Status) : (f.acknowledge).hdrValid = f.hdrValid := rfl
@[simp] theorem Status.acknowledge_endFlag (f : Status) : (f.acknowledge).endFlag = f.endFlag := rfl
@[simp] theorem Status.acknowledge_nibwPend (f : Status) : (f.acknowledge).nibwPend = f.nibwPend := rfl
@[simp] theorem Status.acknowledge_nibrPend (f : Status) : (f.acknowledge).nibrPend = f.nibrPend := rfl
@[simp] theorem Status.acknowledge_nibDrop (f : Status) : (f.acknowledge).nibDrop = false := rfl
@[simp] theorem Status.acknowledge_short (f : Status) : (f.acknowledge).short = f.short := rfl
@[simp] theorem Status.acknowledge_dropped (f : Status) : (f.acknowledge).dropped = false := rfl
@[simp] theorem Status.acknowledge_err (f : Status) : (f.acknowledge).err = .noError := rfl
@[simp] theorem Status.acknowledge_errOp (f : Status) : (f.acknowledge).errOp = 0#8 := rfl

/-! ### `Status.restartIn` (42_stream_io R156) -/

@[simp] theorem Status.restartIn_fmtValid (f : Status) : (f.restartIn).fmtValid = f.fmtValid := rfl
@[simp] theorem Status.restartIn_t3dsValid (f : Status) : (f.restartIn).t3dsValid = f.t3dsValid := rfl
@[simp] theorem Status.restartIn_hdrValid (f : Status) : (f.restartIn).hdrValid = f.hdrValid := rfl
@[simp] theorem Status.restartIn_endFlag (f : Status) : (f.restartIn).endFlag = false := rfl
@[simp] theorem Status.restartIn_nibwPend (f : Status) : (f.restartIn).nibwPend = f.nibwPend := rfl
@[simp] theorem Status.restartIn_nibrPend (f : Status) : (f.restartIn).nibrPend = false := rfl
@[simp] theorem Status.restartIn_nibDrop (f : Status) : (f.restartIn).nibDrop = f.nibDrop := rfl
@[simp] theorem Status.restartIn_short (f : Status) : (f.restartIn).short = f.short := rfl
@[simp] theorem Status.restartIn_dropped (f : Status) : (f.restartIn).dropped = f.dropped := rfl
@[simp] theorem Status.restartIn_err (f : Status) : (f.restartIn).err = f.err := rfl
@[simp] theorem Status.restartIn_errOp (f : Status) : (f.restartIn).errOp = f.errOp := rfl

/-! ### `Status.restartOut` (42_stream_io R156) -/

@[simp] theorem Status.restartOut_fmtValid (f : Status) : (f.restartOut).fmtValid = f.fmtValid := rfl
@[simp] theorem Status.restartOut_t3dsValid (f : Status) : (f.restartOut).t3dsValid = f.t3dsValid := rfl
@[simp] theorem Status.restartOut_hdrValid (f : Status) : (f.restartOut).hdrValid = f.hdrValid := rfl
@[simp] theorem Status.restartOut_endFlag (f : Status) : (f.restartOut).endFlag = f.endFlag := rfl
@[simp] theorem Status.restartOut_nibwPend (f : Status) : (f.restartOut).nibwPend = false := rfl
@[simp] theorem Status.restartOut_nibrPend (f : Status) : (f.restartOut).nibrPend = f.nibrPend := rfl
@[simp] theorem Status.restartOut_nibDrop (f : Status) : (f.restartOut).nibDrop = (f.nibDrop || f.nibwPend) := rfl
@[simp] theorem Status.restartOut_short (f : Status) : (f.restartOut).short = f.short := rfl
@[simp] theorem Status.restartOut_dropped (f : Status) : (f.restartOut).dropped = f.dropped := rfl
@[simp] theorem Status.restartOut_err (f : Status) : (f.restartOut).err = f.err := rfl
@[simp] theorem Status.restartOut_errOp (f : Status) : (f.restartOut).errOp = f.errOp := rfl

end Sys2Proof.Machine
end

