-- ==== Sys2Proof/Laws/Commands.lean ====
section
/-! SUPPORT. What each shared operation and each command body can do, said once: "if it answers next t, then ...". -/

namespace Sys2Proof.Machine

/-! ### How a command runs (30_encoding R106) -/

/-- All that `runCommand` can answer. -/
theorem runCommand_cases {op : BitVec 8} {body : State → Except Stop State} {s : State}
    {o : Host.Outcome State Fault Refusal} (h : runCommand op body s = o) :
    (s.status.err ≠ .noError ∧ o = .next (dropCommand s)) ∨
    (s.status.err = .noError ∧ ∃ t, body s = .ok t ∧ o = .next t) ∨
    (s.status.err = .noError ∧ ∃ e, body s = .error (.raised e) ∧ o = .next (errorEntry op e s)) ∨
    (s.status.err = .noError ∧ ∃ f, body s = .error (.stuck f) ∧ o = .fault f) := by
  unfold runCommand at h
  split at h
  · rename_i he
    split at h
    · exact .inr (.inl ⟨he, _, ‹_›, h.symm⟩)
    · exact .inr (.inr (.inl ⟨he, _, ‹_›, h.symm⟩))
    · exact .inr (.inr (.inr ⟨he, _, ‹_›, h.symm⟩))
  · exact .inl ⟨‹_›, h.symm⟩

theorem runCommand_ok {op : BitVec 8} {body : State → Except Stop State} {s t : State}
    (he : s.status.err = .noError) (h : body s = .ok t) : runCommand op body s = .next t := by
  simp [runCommand, he, h]

theorem runCommand_raised {op : BitVec 8} {body : State → Except Stop State} {s : State} {e : CmdError}
    (he : s.status.err = .noError) (h : body s = .error (.raised e)) :
    runCommand op body s = .next (errorEntry op e s) := by
  simp [runCommand, he, h]

theorem runCommand_dropped {op : BitVec 8} {body : State → Except Stop State} {s : State}
    (he : s.status.err ≠ .noError) : runCommand op body s = .next (dropCommand s) := by
  simp [runCommand, he]

@[simp] theorem raise_eq {α : Type} (e : CmdError) : (raise e : Except Stop α) = .error (.raised e) := rfl

/-! ### Streams (42_stream_io) -/

theorem inShort_iff (s : State) (n : Nat) : inShort s n = true ↔ s.inLen.toNat < s.inPos.toNat + n := by
  simp [inShort]

theorem outOverflows_iff (s : State) (n : Nat) : outOverflows s n = true ↔ s.params.outSize < s.outLen.toNat + n := by
  simp [outOverflows]

theorem rduBody_ok {wc : BitVec 3} {be : Bool} {s t : State} (h : rduBody wc be s = .ok t) :
    ∃ n, nbytes wc = some n ∧ s.inPos.toNat + n ≤ s.inLen.toNat ∧
      t = advanceIn { s with
        res0 := BitVec.ofNat 32 (orderedValue be (readBytes s .inp s.inPos.toNat n))
        res1 := BitVec.ofNat 32 (orderedValue be (readBytes s .inp s.inPos.toNat n) / 2 ^ 32) } n := by
  unfold rduBody at h
  split at h
  · cases h
  · rename_i n hn
    by_cases hs : s.inLen.toNat < s.inPos.toNat + n
    · simp [inShort, hs] at h
    · simp only [inShort, hs, decide_false, Bool.false_eq_true, if_false, Except.ok.injEq] at h
      exact ⟨n, hn, by omega, h.symm⟩

theorem wruBody_ok {wc : BitVec 3} {be : Bool} {s t : State} (h : wruBody wc be s = .ok t) :
    ∃ n, nbytes wc = some n ∧ s.outLen.toNat + n ≤ s.params.outSize ∧
      t = appendOut s (orderedBytes be (wruValue n s) n) := by
  unfold wruBody at h
  split at h
  · cases h
  · rename_i n hn
    by_cases hs : s.params.outSize < s.outLen.toNat + n
    · simp [outOverflows, hs] at h
    · simp only [outOverflows, hs, decide_false, Bool.false_eq_true, if_false, Except.ok.injEq] at h
      exact ⟨n, hn, by omega, h.symm⟩

/-- The nibble packer either keeps a first nibble or writes the byte it completes (R154). -/
theorem nibPut_ok {nib : BitVec 4} {s t : State} (h : nibPut nib s = .ok t) :
    (s.status.nibwPend = false ∧ t = { s with nibw := nib, status := { s.status with nibwPend := true } }) ∨
    (s.status.nibwPend = true ∧ s.outLen.toNat + 1 ≤ s.params.outSize ∧
      t = { appendOut s [nib ++ s.nibw] with status := { s.status with nibwPend := false } }) := by
  unfold nibPut at h
  cases hp : s.status.nibwPend
  · simp only [hp, Bool.false_eq_true, if_false, Except.ok.injEq] at h
    exact .inl ⟨rfl, h.symm⟩
  · by_cases hs : s.params.outSize < s.outLen.toNat + 1
    · simp [hp, outOverflows, hs] at h
    · simp only [hp, outOverflows, hs, decide_false, Bool.false_eq_true, if_false, if_true, Except.ok.injEq] at h
      exact .inr ⟨rfl, by omega, h.symm⟩

theorem wrnibBody_ok {s t : State} (h : wrnibBody s = .ok t) :
    s.arg0.toNat ≤ 15 ∧ nibPut (s.arg0.setWidth 4) s = .ok t := by
  unfold wrnibBody at h
  split at h
  · cases h
  · exact ⟨by omega, h⟩

/-- The 4-bit decoder either gives the pending nibble or takes a byte (43_pixel_codec R189). -/
theorem nibGet_ok {s t : State} {v : BitVec 4} (h : nibGet s = .ok (v, t)) :
    (s.status.nibrPend = true ∧ v = s.nibr ∧ t = { s with status := { s.status with nibrPend := false } }) ∨
    (s.status.nibrPend = false ∧ s.inPos.toNat + 1 ≤ s.inLen.toNat ∧
      v = (readByte s .inp s.inPos.toNat).extractLsb' 0 4 ∧
      t = { advanceIn s 1 with
        nibr := (readByte s .inp s.inPos.toNat).extractLsb' 4 4
        status := { s.status with nibrPend := true } }) := by
  unfold nibGet at h
  cases hp : s.status.nibrPend
  · by_cases hs : s.inLen.toNat < s.inPos.toNat + 1
    · simp [hp, inShort, hs] at h
    · simp only [hp, inShort, hs, decide_false, Bool.false_eq_true, if_false, Except.ok.injEq, Prod.mk.injEq] at h
      exact .inr ⟨rfl, by omega, h.1.symm, h.2.symm⟩
  · simp only [hp, if_true, Except.ok.injEq, Prod.mk.injEq] at h
    exact .inl ⟨rfl, h.1.symm, h.2.symm⟩

/-! ### Requantizer and tiles -/

theorem requantBody_ok {src dst : BitVec 6} {s t : State} (h : requantBody src dst s = .ok t) :
    (src.toNat ≤ 32 ∧ dst.toNat ≤ 32) ∧ s.arg0.toNat < 2 ^ src.toNat ∧
      t = { s with res0 := BitVec.ofNat 32 (requant s.arg0.toNat src.toNat dst.toNat) } := by
  unfold requantBody at h
  split at h
  · cases h
  · split at h
    · cases h
    · simp only [Except.ok.injEq] at h
      exact ⟨by omega, by omega, h.symm⟩

theorem taddrBody_ok {s t : State} (h : taddrBody s = .ok t) :
    tileOk s = true ∧
      t = { s with
        res0 := BitVec.ofNat 32 (addrReg s s.arg0.toNat).1
        res1 := BitVec.ofNat 32 (addrReg s s.arg0.toNat).2 } := by
  unfold taddrBody at h
  split at h
  · simp only [Except.ok.injEq] at h
    exact ⟨‹_›, h.symm⟩
  · cases h

theorem set3dsBody_ok {o : Orient} {pad : Bool} {s t : State} (h : set3dsBody o pad s = .ok t) :
    field s.arg0 0 16 ≠ 0 ∧ field s.arg0 16 16 ≠ 0 ∧
      t = { s with
        tbl := load3dsTable s.tbl
        tileK := 6#5
        tileRk := 0#5
        tileOrigin := 0#32
        tileStride :=
          BitVec.ofNat 32 (stride3ds o (effective pad (field s.arg0 0 16)) (effective pad (field s.arg0 16 16)))
        t3dsCfg := BitVec.ofBool pad ++ o.code
        t3dsW := BitVec.ofNat 32 (effective pad (field s.arg0 0 16))
        t3dsH := BitVec.ofNat 32 (effective pad (field s.arg0 16 16))
        status := { s.status with t3dsValid := true } } := by
  unfold set3dsBody at h
  dsimp only at h
  split at h
  · cases h
  · rename_i hz
    simp only [Except.ok.injEq] at h
    exact ⟨fun hc => hz (.inl hc), fun hc => hz (.inr hc), h.symm⟩

theorem t3dsBody_ok {s t : State} (h : t3dsBody s = .ok t) :
    s.status.t3dsValid = true ∧ tileOk s = true ∧
      t = { s with
        res0 := BitVec.ofInt 32 (orient (cfgOrient s) (addrReg s s.arg0.toNat) s.t3dsH.toNat).1
        res1 := BitVec.ofInt 32 (orient (cfgOrient s) (addrReg s s.arg0.toNat) s.t3dsH.toNat).2 } := by
  unfold t3dsBody at h
  split at h
  · split at h
    · simp only [Except.ok.injEq] at h
      exact ⟨‹_›, ‹_›, h.symm⟩
    · cases h
  · cases h

/-! ### Pixel codec (43_pixel_codec) -/

theorem setfmtBody_ok {s t : State} (h : setfmtBody s = .ok t) :
    checkFmt s.arg0 = none ∧ t = activate s.arg0 s := by
  unfold setfmtBody at h
  split at h
  · cases h
  · simp only [Except.ok.injEq] at h
    exact ⟨‹_›, h.symm⟩

theorem setfmtidBody_ok {id : BitVec 4} {s t : State} (h : setfmtidBody id s = .ok t) :
    ∃ w, fmtTable[id.toNat]? = some w ∧ t = activate w s := by
  unfold setfmtidBody at h
  split at h
  · cases h
  · split at h
    · cases h
    · simp only [Except.ok.injEq] at h
      exact ⟨_, ‹_›, h.symm⟩

theorem decodeBytes_ok {l : Layout} {s t : State} (h : decodeBytes l s = .ok t) :
    s.inPos.toNat + unitSize l s.fmt ≤ s.inLen.toNat ∧
      t = deliverPixel (decodeUnit l s.fmt (readUnit s s.fmt (unitSize l s.fmt))) (advanceIn s (unitSize l s.fmt)) := by
  unfold decodeBytes at h
  dsimp only at h
  by_cases hs : s.inLen.toNat < s.inPos.toNat + unitSize l s.fmt
  · simp [inShort, hs] at h
  · simp only [inShort, hs, decide_false, Bool.false_eq_true, if_false, Except.ok.injEq] at h
    exact ⟨by omega, h.symm⟩

theorem decodeLh_ok {l : Layout} {s t : State} (h : decodeLh l s = .ok t) :
    (isNibble l s.fmt = true ∧ ∃ v u, nibGet s = .ok (v, u) ∧ t = deliverPixel (decodeUnit l s.fmt v.toNat) u) ∨
    (isNibble l s.fmt = false ∧ decodeBytes l s = .ok t) := by
  unfold decodeLh at h
  cases hn : isNibble l s.fmt
  · rw [hn] at h
    exact .inr ⟨rfl, by simpa using h⟩
  · rw [hn] at h
    simp only [if_true] at h
    split at h
    · cases h
    · simp only [Except.ok.injEq] at h
      exact .inl ⟨rfl, _, _, ‹_›, h.symm⟩

/-- All that a completed DECPIX can be (R195). -/
theorem decpixBody_ok {s t : State} (h : decpixBody s = .ok t) :
    s.status.fmtValid = true ∧ ∃ l, layoutOf s.fmt = some l ∧
      ((l = .rgba ∧ s.inLen.toNat ≤ s.inPos.toNat ∧ t = reportEnd s) ∨
        (isNibble l s.fmt = false ∧ decodeBytes l s = .ok t) ∨
        (isNibble l s.fmt = true ∧ ∃ v u, nibGet s = .ok (v, u) ∧ t = deliverPixel (decodeUnit l s.fmt v.toNat) u)) := by
  unfold decpixBody at h
  split at h
  · rename_i hv
    refine ⟨hv, ?_⟩
    split at h
    · cases h
    · refine ⟨_, ‹_›, ?_⟩
      split at h
      · simp only [Except.ok.injEq] at h
        exact .inl ⟨rfl, ‹_›, h.symm⟩
      · exact .inr (.inl ⟨rfl, h⟩)
    · exact ⟨_, ‹_›, .inr ((decodeLh_ok h).symm)⟩
    · exact ⟨_, ‹_›, .inr ((decodeLh_ok h).symm)⟩
  · cases h

theorem encodeColour_ok {l : Layout} {s t : State} (h : encodeColour l s = .ok t) :
    (isNibble l s.fmt = true ∧ nibPut (BitVec.ofNat 4 (encodeUnit l s.fmt s.arg0)) s = .ok t) ∨
    (isNibble l s.fmt = false ∧ s.outLen.toNat + unitSize l s.fmt ≤ s.params.outSize ∧
      t = appendOut s (orderedBytes (fmtBe s.fmt) (encodeUnit l s.fmt s.arg0) (unitSize l s.fmt))) := by
  unfold encodeColour at h
  dsimp only at h
  cases hn : isNibble l s.fmt
  · rw [hn] at h
    by_cases hs : s.params.outSize < s.outLen.toNat + unitSize l s.fmt
    · simp [outOverflows, hs] at h
    · simp only [outOverflows, hs, decide_false, Bool.false_eq_true, if_false, Except.ok.injEq] at h
      exact .inr ⟨rfl, by omega, h.symm⟩
  · rw [hn] at h
    exact .inl ⟨rfl, by simpa using h⟩

theorem encpixBody_ok {s t : State} (h : encpixBody s = .ok t) :
    s.status.fmtValid = true ∧ ∃ l, layoutOf s.fmt = some l ∧ encodeColour l s = .ok t := by
  unfold encpixBody at h
  split at h
  · rename_i hv
    refine ⟨hv, ?_⟩
    split at h
    · cases h
    · exact ⟨_, ‹_›, h⟩
  · cases h

/-! ### Container (46_container) -/

/-- A pixel's word lies in the bitmap (R282). -/
theorem pixelWord_lt {j : Job} {i k : Nat} (h : pixelWord j i = some k) : k < j.pixels := by
  unfold pixelWord at h
  dsimp only at h
  split at h
  · rename_i hb
    simp only [Option.some.injEq] at h
    obtain ⟨h1, h2, h3, h4⟩ := hb
    have hx : (addr3ds i j.orient j.effW j.effH).1.toNat < j.width := by omega
    have hy : (addr3ds i j.orient j.effW j.effH).2.toNat + 1 ≤ j.height := by omega
    have := Nat.mul_le_mul_right j.width hy
    rw [Nat.add_mul] at this
    unfold Job.pixels
    rw [Nat.mul_comm j.width]
    omega
  · cases h

/-- LOAD's loop never passes the last pixel, keeps BMP in form, and writes inside the bitmap only (R284). -/
theorem loadPixels_ok {s : State} {j : Job} {e todo i : Nat} {m m' : Memory} {count : Nat}
    (h : loadPixels s j e todo i m = .ok (m', count)) :
    i ≤ count ∧ count ≤ i + todo ∧ (m.wf → m'.wf) ∧ ∀ c ∈ m', c.1 < 4 * j.pixels ∨ c ∈ m := by
  induction todo generalizing i m with
  | zero =>
    simp only [loadPixels, Except.ok.injEq, Prod.mk.injEq] at h
    obtain ⟨rfl, rfl⟩ := h
    exact ⟨le_rfl, le_rfl, id, fun _ hc => .inr hc⟩
  | succ todo ih =>
    unfold loadPixels at h
    split at h
    · cases h
    · simp only [Except.ok.injEq, Prod.mk.injEq] at h
      obtain ⟨rfl, rfl⟩ := h
      exact ⟨le_rfl, by omega, id, fun _ hc => .inr hc⟩
    · split at h
      · cases h
      · rename_i u hu k hk
        obtain ⟨h1, h2, h3, h4⟩ := ih h
        refine ⟨by omega, by omega, fun hm => h3 (writeWord_wf hm _ _), fun c hc => ?_⟩
        rcases h4 c hc with hlt | hc
        · exact .inl hlt
        · rcases mem_writeBytes hc with hc | hc
          · have := pixelWord_lt hk
            simp only [leBytes_length] at hc
            exact .inl (by omega)
          · exact .inr hc

/-- All that a completed LOAD can be (R284). -/
theorem loadBody_ok {o : Orient} {pad : Bool} {s t : State} (h : loadBody o pad s = .ok t) :
    ∃ f m count,
      32 ≤ s.inLen.toNat ∧
      (0 ≤ (headerOf (inHeader s)).dataSize ∧ 32 + (headerOf (inHeader s)).dataSize ≤ (s.inLen.toNat : Int)) ∧
      tableFormat (headerOf (inHeader s)).formatId = some f ∧
      (0 < (headerOf (inHeader s)).width ∧ 0 < (headerOf (inHeader s)).height) ∧
      (jobOf (headerOf (inHeader s)) f o pad).pixels ≤ s.params.bmpWords ∧
      loadPixels s (jobOf (headerOf (inHeader s)) f o pad) (32 + (headerOf (inHeader s)).dataSize.toNat)
        (jobOf (headerOf (inHeader s)) f o pad).pixels 0 s.bmp = .ok (m, count) ∧
      t = commitLoad s (jobOf (headerOf (inHeader s)) f o pad) m count := by
  unfold loadBody at h
  dsimp only at h
  split at h
  · cases h
  split at h
  · cases h
  split at h
  · cases h
  split at h
  · cases h
  rename_i f hf
  split at h
  · cases h
  split at h
  · cases h
  split at h
  · cases h
  rename_i m count hl
  simp only [Except.ok.injEq] at h
  refine ⟨f, m, count, by omega, by omega, hf, by omega, by omega, hl, h.symm⟩

/-- The table's formats are those of ids 0 to 11 (43_pixel_codec R185). -/
theorem tableFormat_some {fid : Int} {f : Layout × Word} (h : tableFormat fid = some f) :
    (0 ≤ fid ∧ fid ≤ 11) ∧ f.2 ∈ fmtTable ∧ layoutOf f.2 = some f.1 := by
  unfold tableFormat at h
  split at h
  · rename_i h0
    split at h
    · rename_i w hw
      obtain ⟨hlt, hw'⟩ := List.getElem?_eq_some_iff.1 hw
      have hlen : fmtTable.length = 12 := rfl
      cases hl : layoutOf w with
      | none => simp [hl] at h
      | some l =>
        simp only [hl, Option.map_some, Option.some.injEq] at h
        subst h
        exact ⟨by omega, hw' ▸ List.getElem_mem hlt, hl⟩
    · cases h
  · cases h

/-- Every id 0 to 11 has a format. -/
theorem tableFormat_of_range {fid : Int} (h0 : 0 ≤ fid) (h1 : fid ≤ 11) : ∃ f, tableFormat fid = some f := by
  obtain ⟨n, rfl⟩ := Int.eq_ofNat_of_zero_le h0
  have hn : n < 12 := by omega
  interval_cases n <;> exact ⟨_, rfl⟩

/-- SAVE's walk gives one unit value per pixel (R285). -/
theorem savePixels_length {s : State} {j : Job} {todo i : Nat} {us : List Nat} (h : savePixels s j todo i = .ok us) :
    us.length = todo := by
  induction todo generalizing i us with
  | zero => simp only [savePixels, Except.ok.injEq] at h; simp [← h]
  | succ todo ih =>
    unfold savePixels at h
    split at h
    · cases h
    · split at h
      · cases h
      · simp only [Except.ok.injEq] at h
        rw [← h, List.length_cons, ih ‹_›]

/-- All that a completed SAVE can be (R285). -/
theorem saveBody_ok {o : Orient} {pad : Bool} {s t : State} (h : saveBody o pad s = .ok t) :
    ∃ f us,
      s.status.hdrValid = true ∧
      ((s.bmpW.toNat : Int) = (headerOf s.hdr).width ∧ (s.bmpH.toNat : Int) = (headerOf s.hdr).height) ∧
      tableFormat (headerOf s.hdr).formatId = some f ∧
      (jobOf (headerOf s.hdr) f o pad).pixels ≤ s.params.bmpWords ∧
      savePixels s (jobOf (headerOf s.hdr) f o pad) (jobOf (headerOf s.hdr) f o pad).pixels 0 = .ok us ∧
      (headerBytes s.hdr ++ payloadOf (jobOf (headerOf s.hdr) f o pad) us).length ≤ s.params.outSize ∧
      t = commitSave s (headerBytes s.hdr ++ payloadOf (jobOf (headerOf s.hdr) f o pad) us)
        (isNibble f.1 f.2 && decide ((jobOf (headerOf s.hdr) f o pad).pixels % 2 = 1)) := by
  unfold saveBody at h
  dsimp only at h
  split at h
  · rename_i hv
    split at h
    · cases h
    split at h
    · cases h
    rename_i hw hh
    split at h
    · cases h
    rename_i f hf
    split at h
    · cases h
    split at h
    · cases h
    rename_i us hs
    split at h
    · cases h
    simp only [Except.ok.injEq] at h
    exact ⟨f, us, hv, ⟨not_not.1 hw, not_not.1 hh⟩, hf, by omega, hs, by omega, h.symm⟩
  · cases h

/-- The header is 32 bytes (R280). -/
@[simp] theorem headerBytes_length (hdr : Vector Word 8) : (headerBytes hdr).length = 32 := by
  have h : ∀ l : List Word, (l.flatMap fun w => leBytes w.toNat 4).length = 4 * l.length := by
    intro l
    induction l with
    | nil => rfl
    | cons w l ih => simp [ih]; omega
  simp [headerBytes, h]

end Sys2Proof.Machine
end

