-- ==== Sys2Proof/Laws/Host.lean ====
section
/-! SUPPORT. What a step can be: idle, power-on, a read, a register write, a command, a window write. -/

namespace Sys2Proof.Machine

/-- All that serving one host access can answer. -/
theorem serve_cases {op : HostOp} {s : State} {o : Host.Outcome State Fault Refusal} (h : serve op s = o) :
    (op = .powerOn ∧ o = .next (powerOnReset s)) ∨
    (∃ d, o = .next { s with hostData := some d }) ∨
    (∃ r v, r ≠ .cmd ∧ o = .next (writeReg r v s)) ∨
    (∃ v, o = issue v s) ∨
    (∃ b off width v, o = .next (windowWrite s b off width v)) ∨
    (∃ addr width why, targetOf s.params addr width = .reject why ∧ o = .refused why) := by
  unfold serve at h
  split at h
  · exact .inl ⟨rfl, h.symm⟩
  · split at h
    · exact .inr (.inl ⟨_, h.symm⟩)
    · exact .inr (.inl ⟨_, h.symm⟩)
    · exact .inr (.inr (.inr (.inr (.inr ⟨_, _, _, ‹_›, h.symm⟩))))
  · split at h
    · rename_i r _
      unfold writeTo at h
      split at h
      · exact .inr (.inr (.inr (.inl ⟨_, h.symm⟩)))
      · exact .inr (.inr (.inl ⟨r, _, ‹_›, h.symm⟩))
    · exact .inr (.inr (.inr (.inr (.inl ⟨_, _, _, _, h.symm⟩))))
    · exact .inr (.inr (.inr (.inr (.inr ⟨_, _, _, ‹_›, h.symm⟩))))

/-- Why a host access is refused (10_state R53, 20_memory R72; log 7). -/
theorem targetOf_reject {p : Params} {addr width : Nat} {why : Refusal} (h : targetOf p addr width = .reject why) :
    why = .registerAccess ∨ why = .windowAccess ∨ why = .outsideMap := by
  unfold targetOf at h
  split at h
  · cases h; simp
  · unfold targetAt at h
    split at h
    · split at h
      · cases h
      · cases h; simp
    · split at h
      · split at h
        · split at h
          · cases h
          · split at h <;> cases h
        · cases h; simp
      · cases h; simp

/-- A CMD write reaches the command register, whatever the base (10_state R52). -/
theorem serve_cmdWrite (w : Word) (s : State) : serve (cmdWrite s.params w) s = issue w s := by
  simp [serve, cmdWrite, targetOf, targetAt, regAt, writeTo]

/-- A step with nothing pending leaves the state. -/
theorem step_idle {s : State} (h : s.pending = []) : step s = .next s := by simp [step, h]

/-- A step serves the first pending access. -/
theorem step_serve {s : State} {op : HostOp} {rest : List HostOp} (h : s.pending = op :: rest) :
    step s = serve op { s with pending := rest } := by simp [step, h]

end Sys2Proof.Machine
end

