-- ==== Sys2Proof/Laws/PerInstr.lean ====
section
/-! SUPPORT. Statements made of every command, one lemma per constructor. -/

namespace Sys2Proof.Laws

/-- The word of a command carries its opcode in CMD[7:0] (30_encoding R100), the byte an error entry records in ERR_OP
(60_exceptions R323). -/
def OpcodeByte.Statement (i : Instr) : Prop := opcodeField (encode i) = i.opcode

theorem opcodeField_append (hi : BitVec 24) (op : BitVec 8) : opcodeField (hi ++ op) = op := by
  apply BitVec.eq_of_getLsbD_eq
  intro i hi'
  simp only [opcodeField, BitVec.getLsbD_extractLsb', Nat.zero_add, BitVec.getLsbD_append, hi', decide_true,
    Bool.true_and, if_true]

theorem OpcodeByte.clrerr : OpcodeByte.Statement .clrerr := rfl
theorem OpcodeByte.sreset : OpcodeByte.Statement .sreset := rfl
theorem OpcodeByte.strrst (inp out : Bool) : OpcodeByte.Statement (.strrst inp out) := by
  cases inp <;> cases out <;> rfl
theorem OpcodeByte.requant (src dst : BitVec 6) : OpcodeByte.Statement (.requant src dst) :=
  opcodeField_append (0#12 ++ dst ++ src) 0x10#8
theorem OpcodeByte.rdu (wc : BitVec 3) (be : Bool) : OpcodeByte.Statement (.rdu wc be) :=
  opcodeField_append (0#20 ++ BitVec.ofBool be ++ wc) 0x20#8
theorem OpcodeByte.wru (wc : BitVec 3) (be : Bool) : OpcodeByte.Statement (.wru wc be) :=
  opcodeField_append (0#20 ++ BitVec.ofBool be ++ wc) 0x21#8
theorem OpcodeByte.wrnib : OpcodeByte.Statement .wrnib := rfl
theorem OpcodeByte.setfmt : OpcodeByte.Statement .setfmt := rfl
theorem OpcodeByte.setfmtid (id : BitVec 4) : OpcodeByte.Statement (.setfmtid id) :=
  opcodeField_append (0#20 ++ id) 0x31#8
theorem OpcodeByte.decpix : OpcodeByte.Statement .decpix := rfl
theorem OpcodeByte.encpix : OpcodeByte.Statement .encpix := rfl
theorem OpcodeByte.taddr : OpcodeByte.Statement .taddr := rfl
theorem OpcodeByte.set3ds (o : Orient) (pad : Bool) : OpcodeByte.Statement (.set3ds o pad) :=
  opcodeField_append (0#21 ++ BitVec.ofBool pad ++ o.code) 0x41#8
theorem OpcodeByte.t3ds : OpcodeByte.Statement .t3ds := rfl
theorem OpcodeByte.load (o : Orient) (pad : Bool) : OpcodeByte.Statement (.load o pad) :=
  opcodeField_append (0#21 ++ BitVec.ofBool pad ++ o.code) 0x50#8
theorem OpcodeByte.save (o : Orient) (pad : Bool) : OpcodeByte.Statement (.save o pad) :=
  opcodeField_append (0#21 ++ BitVec.ofBool pad ++ o.code) 0x51#8

end Sys2Proof.Laws
end

