-- ==== Sys2Proof/Tests/Slice0.lean ====
section
/-! SUPPORT. Tests on fixed values, each from the section of spec/95_test_vectors.md or the rule its comment names, and for
each statement with hypotheses a state and operands that meet them. -/

namespace Sys2Proof.Tests

open Sys2Proof Sys2Proof.Machine Sys2Proof.Claims

/-! ### Helpers -/

/-- What `f` sees of the state after issuing the word `w`. -/
def run {α : Type} (w : Nat) (s : State) (f : State → α) : Option α :=
  match step (s.withFetchWord 32 w) with
  | .next t => some (f t)
  | .fault _ => none
  | .refused _ => none

/-- STATUS, RES0 and RES1. -/
def results (t : State) : Nat × Nat × Nat := (t.status.word.toNat, t.res0.toNat, t.res1.toNat)

/-- A memory holding these bytes from offset 0. -/
def bytes (bs : List Nat) : Memory := bs.zipIdx.map fun p => (p.2, BitVec.ofNat 8 p.1)

/-- The bytes a memory lists. -/
def listed (m : Memory) : List Nat := m.map fun c => c.2.toNat

/-- The reset state with ARG0. -/
def argState (v : Nat) : State := { State.reset with arg0 := BitVec.ofNat 32 v }

/-- The reset state with bytes in IN and IN_LEN their number. -/
def inState (bs : List Nat) : State :=
  { State.reset with inBuf := bytes bs, inLen := BitVec.ofNat 32 bs.length }

/-- A state with FMT valid. -/
def withFmt (w : Word) (s : State) : State := activate w s

/-- A state with NIBW pending. -/
def withNibw (n : BitVec 4) (s : State) : State :=
  { s with nibw := n, status := { s.status with nibwPend := true } }

/-- A state whose OUT is full. -/
def outFull (s : State) : State := { s with outLen := BitVec.ofNat 32 s.params.outSize }

/-- The next host access. -/
def queued (op : HostOp) (s : State) : State := { s with pending := [op] }

/-- A state with an error recorded: REQUANT's CONFIG (section 2.1). -/
def failed : State := errorEntry 0x10#8 .config State.reset

/-- A container (46_container R280): data size, format id, width, height, payload. -/
def container (size fid wd ht : Nat) (payload : List Nat) : List Nat :=
  [0, 0, 0, 0, size, 0, 0, 0, 0, 0, 0, 0, fid, 0, 0, 0, wd, 0, ht, 0, 0, 0, 0, 0, 0, 0, 0, 0, 0, 0, 0, 0] ++ payload

/-- An L4 container of 2 x 2 pixels. -/
def smallL4 : List Nat := container 2 10 2 2 [0xA5, 0x3C]

/-- The state after LOAD of it. -/
def loaded (o : Orient) (bs : List Nat) : State :=
  match exec (.load o false) (inState bs) with
  | .next t => t
  | .fault _ => State.reset
  | .refused _ => State.reset

/-- Where LOAD ends in a next state, `loaded` is that state. -/
theorem loaded_of_results {o : Orient} {bs : List Nat} {r : Nat × Nat × Nat}
    (h : (match exec (.load o false) (inState bs) with
      | .next t => some (results t)
      | .fault _ => none
      | .refused _ => none) = some r) :
    exec (.load o false) (inState bs) = .next (loaded o bs) := by
  unfold loaded
  split at h
  · rename_i t ht
    rw [ht]
  · cases h
  · cases h

/-- The canonical table of two levels, as TBL entries (44_tile_engine R244). -/
def tiled (stride n : Nat) : State :=
  { argState n with
    tbl := ((State.reset.tbl.set 0 0x00000001#32).set 1 0x00010000#32)
    tileK := 2#5, tileStride := BitVec.ofNat 32 stride }

/-- The state after SET3DS of the dimensions w x h. -/
def set3ds (o : Orient) (w h n : Nat) : State :=
  match exec (.set3ds o false) (argState (w + 65536 * h)) with
  | .next t => { t with arg0 := BitVec.ofNat 32 n }
  | .fault _ => State.reset
  | .refused _ => State.reset

/-! ### Well-formedness: the reserved width codes (30_encoding R102) -/

theorem test_wf_refuses_rdu_width_5 : (Instr.rdu 5#3 false).wf = false := by decide
theorem test_wf_refuses_rdu_width_6 : (Instr.rdu 6#3 true).wf = false := by decide
theorem test_wf_refuses_wru_width_7 : (Instr.wru 7#3 true).wf = false := by decide
theorem test_wf_accepts_width_4 : (Instr.rdu 4#3 true).wf = true ∧ (Instr.wru 4#3 false).wf = true := by decide

/-! ### Decoding: words written from the formats of 30_encoding R101 and the opcodes of R104 -/

theorem test_decode_clrerr : decode 0x00000001#32 = .ok .clrerr := by decide
theorem test_decode_sreset : decode 0x00000002#32 = .ok .sreset := by decide
/-- R: IN is bit 8, OUT is bit 9. -/
theorem test_decode_strrst : decode 0x00000103#32 = .ok (.strrst true false) := by decide
/-- Q: FROM is 13:8, TO is 19:14; 5 * 2^8 + 8 * 2^14 + 0x10. -/
theorem test_decode_requant : decode 0x00020510#32 = .ok (.requant 5#6 8#6) := by decide
/-- S: WC is 10:8, BE is 11. -/
theorem test_decode_rdu : decode 0x00000C20#32 = .ok (.rdu 4#3 true) := by decide
theorem test_decode_wru : decode 0x00000221#32 = .ok (.wru 2#3 false) := by decide
theorem test_decode_wrnib : decode 0x00000022#32 = .ok .wrnib := by decide
theorem test_decode_setfmt : decode 0x00000030#32 = .ok .setfmt := by decide
/-- I: ID is 11:8. -/
theorem test_decode_setfmtid : decode 0x00000C31#32 = .ok (.setfmtid 12#4) := by decide
theorem test_decode_decpix : decode 0x00000032#32 = .ok .decpix := by decide
theorem test_decode_encpix : decode 0x00000033#32 = .ok .encpix := by decide
theorem test_decode_taddr : decode 0x00000040#32 = .ok .taddr := by decide
/-- O: ORIENT is 9:8, PAD is 10. -/
theorem test_decode_set3ds : decode 0x00000641#32 = .ok (.set3ds .rotateCcw true) := by decide
theorem test_decode_t3ds : decode 0x00000042#32 = .ok .t3ds := by decide
theorem test_decode_load : decode 0x00000150#32 = .ok (.load .transpose false) := by decide
theorem test_decode_save : decode 0x00000351#32 = .ok (.save .flipVertical false) := by decide
/-- Reserved bits, reserved widths and unassigned opcodes (R105; sections 2.1, 2.2, 2.6). -/
theorem test_decode_rejects :
    decode 0x00000000#32 = .error .unassignedOpcode ∧ decode 0x00000007#32 = .error .unassignedOpcode ∧
    decode 0x00000403#32 = .error .reservedBits ∧ decode 0x00120510#32 = .error .reservedBits ∧
    decode 0x00000520#32 = .error .reservedWidth ∧ decode 0x00000851#32 = .error .reservedBits ∧
    decode 0x00000101#32 = .error .reservedBits := by decide

/-! ### One step of each command -/

/-- Section 2.7 P5: CLRERR after an error clears DROPPED with it (R310). -/
theorem test_clrerr : run 0x01 (dropCommand failed) results = some (0, 0, 0) := by decide
/-- R311: every register to 0, FMT_VALID among them; the buffers kept. -/
theorem test_sreset :
    run 0x02 (withFmt 0x5185#32 (inState [7])) (fun t => (t.status.word, t.fmt, listed t.inBuf)) =
      some (0#32, 0#32, [7]) := by decide
/-- Section 2.2: STRRST out with a pending nibble sets NIB_DROP. -/
theorem test_strrst_out :
    run 0x203 (withNibw 5#4 State.reset) (fun t => (t.status.word, t.nibw)) = some (0x40#32, 0#4) := by decide
/-- Section 2.2: STRRST in. -/
theorem test_strrst_in :
    run 0x103
      { State.reset with
        inPos := 5#32, nibr := 3#4, status := { Status.reset with endFlag := true, nibrPend := true } }
      (fun t => (t.inPos, t.nibr, t.status.word)) = some (0#32, 0#4, 0#32) := by decide
/-- Section 2.1: 1 requantized from 5 to 32 bits. -/
theorem test_requant_up : run 0x00080510 (argState 1) results = some (0, 0x08421084, 0) := by decide
/-- Section 2.1: a downscale truncates, 0x7F from 8 to 6 bits. -/
theorem test_requant_down : run 0x00018810 (argState 0x7F) results = some (0, 0x1F, 0) := by decide
/-- Section 2.2: 64 bits big-endian. -/
theorem test_rdu_be : run 0xC20 (inState [1, 2, 3, 4, 5, 6, 7, 8]) results = some (0, 0x05060708, 0x01020304) := by decide
/-- Section 2.2: three bytes little-endian. -/
theorem test_rdu_le : run 0x220 (inState [1, 2, 3]) results = some (0, 0x030201, 0) := by decide
/-- Section 2.2: three bytes big-endian. -/
theorem test_wru_be : run 0xA21 (argState 0xABCDEF) (fun t => listed t.outBuf) = some [0xAB, 0xCD, 0xEF] := by decide
/-- Section 2.2: the bits of ARG0 above the width are ignored. -/
theorem test_wru_le :
    run 0x121 (argState 0xFFFF1234) (fun t => (listed t.outBuf, t.outLen)) = some ([0x34, 0x12], 2#32) := by decide
/-- Section 2.2: the second nibble completes the byte 0xA5. -/
theorem test_wrnib_pair :
    run 0x22 (withNibw 5#4 (argState 0xA)) (fun t => (listed t.outBuf, t.status.word, t.nibw)) =
      some ([0xA5], 0#32, 5#4) := by decide
/-- Section 2.2: RANGE above 15. -/
theorem test_wrnib_range : run 0x22 (argState 0x10) results = some (0x22060000, 0, 0) := by decide
/-- Section 2.3: LA 12/4, a word outside the format table, is valid. -/
theorem test_setfmt : run 0x30 (argState 0x0110000C) (fun t => (t.status.word, t.fmt)) = some (1#32, 0x0110000C#32) := by
  decide
/-- Section 2.3: FAMILY 3 is UNSUPPORTED. -/
theorem test_setfmt_block : run 0x30 (argState 0x03000000) results = some (0x30090000, 0, 0) := by decide
/-- Section 2.3: id 2 is RGBA5551. -/
theorem test_setfmtid : run 0x231 State.reset (fun t => (t.status.word, t.fmt)) = some (1#32, 0x00045145#32) := by decide
/-- Section 2.3: id 15 has no entry. -/
theorem test_setfmtid_none : run 0xF31 State.reset results = some (0x31020000, 0, 0) := by decide
/-- Section 2.3: 10/10/10/2. -/
theorem test_decpix_deep :
    run 0x32 (withFmt 0x0008A28A#32 (inState [0xFF, 3, 0, 0xC0])) results = some (1, 0xFFC0003F, 1) := by decide
/-- Section 2.3: LA44, A in the low nibble. -/
theorem test_decpix_la44 :
    run 0x32 (withFmt 0x01100004#32 (inState [0x4C])) results = some (1, 0xCC444444, 1) := by decide
/-- Section 2.3: 565. -/
theorem test_encpix_565 :
    run 0x33 (withFmt 0x00005185#32 (argState 0xFF847F3C)) (fun t => listed t.outBuf) = some [0xE7, 0x83] := by decide
/-- Section 2.3: RGB888 big-endian. -/
theorem test_encpix_be :
    run 0x33 (withFmt 0x04008208#32 (argState 0xFF112233)) (fun t => listed t.outBuf) = some [0x11, 0x22, 0x33] := by decide
/-- Section 2.4: a row entry XORs (1,0) in on odd tile rows; table (1,0), (0,1), stride 4, n = 9. -/
theorem test_taddr_row :
    run 0x40 { tiled 4 9 with rt := State.reset.rt.set 0 1#32, tileRk := 1#5 } results = some (0, 0, 2) := by decide
/-- Section 2.4: an origin (1,0) is XORed in; n = 1. -/
theorem test_taddr_origin : run 0x40 { tiled 4 1 with tileOrigin := 1#32 } results = some (0, 0, 0) := by decide
/-- Section 2.5: 200 x 120, rotateCcw, padded. -/
theorem test_set3ds :
    run 0x641 (argState 0x007800C8) (fun t => (t.t3dsW, t.t3dsH, t.tileStride, t.t3dsCfg, t.status.word)) =
      some (256#32, 128#32, 128#32, 6#3, 2#32) := by decide
/-- Section 2.5: 8 x 8, flipVertical, n = 64 leaves the image: y = -1 modulo 2^32. -/
theorem test_t3ds_negative : run 0x42 (set3ds .flipVertical 8 8 64) results = some (2, 0, 0xFFFFFFFF) := by decide
/-- Section 2.5: 8 x 16, rotateCcw, n = 64. -/
theorem test_t3ds_rotate : run 0x42 (set3ds .rotateCcw 8 16 64) results = some (2, 0, 7) := by decide
/-- R283, R284, by hand: the low nibble first, 5 and A at (0,0) and (1,0), C and 3 at (0,1) and (1,1), each doubled. -/
theorem test_load_l4 :
    run 0x50 (inState smallL4)
      (fun t => (results t, readBmp t 0, readBmp t 1, readBmp t 2, readBmp t 3)) =
      some ((4, 4, 0), 0xFF555555#32, 0xFFAAAAAA#32, 0xFFCCCCCC#32, 0xFF333333#32) := by decide +kernel
/-- R284, by hand: an RGBA payload of one unit leaves SHORT, count 1. -/
theorem test_load_short :
    run 0x50 (inState (container 4 0 2 2 [1, 2, 3, 4])) (fun t => (results t, readBmp t 0)) =
      some ((0x84, 1, 0), 0x01040302#32) := by decide +kernel
/-- R286: SAVE after LOAD reproduces the container. -/
theorem test_save_round_trip :
    run 0x51 (loaded .identity smallL4) (fun t => (t.outLen, listed t.outBuf)) = some (34#32, smallL4) := by
  decide +kernel
/-- Section 2.6: a BMP_W that differs from the header's width. -/
theorem test_save_validation :
    run 0x51 { loaded .identity smallL4 with bmpW := 9#16 } results = some (0x51030004, 0x00090002, 0) := by
  decide +kernel

/-! ### The host's questions -/

/-- `decodeTableWord` is the decoder's answer, and step runs the word first after reset (section 2.7 P5: unassigned 0x07). -/
theorem test_host_words :
    decodeTableWord 32 0x00020510 = some (.requant 5#6 8#6) ∧ decodeTableWord 32 0x07 = none ∧
      run 0x07 State.reset results = some (0x07010000, 0, 0) := by decide
/-- A host read of STATUS at offset 4 (10_state R52). -/
theorem test_host_read :
    (match step (queued (.read 4 4) failed) with | .next t => t.hostData | _ => none) = some 0x10020000#32 := by decide
/-- IN_LEN is clamped to IN_SIZE (10_state R38). -/
theorem test_host_in_len :
    (match step (queued (.write 0x1C 4 5000#32) State.reset) with | .next t => some t.inLen | _ => none) =
      some 4096#32 := by decide

/-! ### Witnesses: for each statement with hypotheses, a state and operands that meet them -/

theorem test_witness_encoding :
    (Instr.rdu 4#3 true).wf = true ∧ decode (encode (.rdu 4#3 true)) = .ok (.rdu 4#3 true) := by decide

/-- The accepted words at the edges of the width field, and the words on both sides of an opcode. -/
theorem test_witness_opcode_map :
    Accepted 0x00000C20#32 ∧ Accepted 0xFF10#32 ∧ ¬ Accepted 0x00000520#32 ∧ ¬ Accepted 0x00000000#32 ∧
      ¬ Accepted 0x00000023#32 := by
  unfold Accepted; decide

theorem test_witness_step_runs :
    Issues (queued (cmdWrite State.reset.params 0x20510#32) State.reset) 0x20510#32 [] ∧
      decode 0x20510#32 = .ok (.requant 5#6 8#6) := ⟨rfl, by decide⟩

theorem test_witness_illegal :
    Issues (queued (cmdWrite State.reset.params 7#32) State.reset) 7#32 [] ∧
      State.reset.status.err = .noError ∧ ¬ Accepted 7#32 := ⟨rfl, rfl, by unfold Accepted; decide⟩

theorem test_witness_sticky :
    Issues (queued (cmdWrite failed.params 0x101#32) failed) 0x101#32 [] ∧ failed.status.err ≠ .noError ∧
      (0x101#32 : Word) ≠ 0x00000001#32 ∧ (0x101#32 : Word) ≠ 0x00000002#32 := by
  unfold Issues; decide

theorem test_witness_idle : State.reset.pending = [] := rfl

/-- CONFIG, and BOUNDS with its RES0: a 3 x 1 container whose third pixel has the address (0, 1). -/
theorem test_witness_failed_command :
    State.reset.status.err = .noError ∧ exec (.requant 33#6 8#6) State.reset = .next failed ∧
      failed.status.err ≠ .noError ∧
      run 0x50 (inState (container 2 10 3 1 [0x11, 0x11])) results = some (0x50080000, 2, 0) :=
  ⟨rfl, rfl, by decide, by decide +kernel⟩

theorem test_witness_power_on : (queued .powerOn State.reset).pending = .powerOn :: [] := rfl

/-- Each clause at the edge of its range: depth 32 and the largest value; depth 33; a value of exactly 2^5. -/
theorem test_witness_requant :
    State.reset.status.err = .noError ∧
    ((32#6 : BitVec 6).toNat ≤ 32 ∧ (0xFFFFFFFF#32 : Word).toNat < 2 ^ (32#6 : BitVec 6).toNat) ∧
    32 < (33#6 : BitVec 6).toNat ∧
    ((5#6 : BitVec 6).toNat ≤ 32 ∧ 2 ^ (5#6 : BitVec 6).toNat ≤ (32#32 : Word).toNat) := by decide

/-- Both clauses at their edges, and two values of k for 5 bits to 8: the least, 2, and 7. -/
theorem test_witness_requant_forms :
    (0 < 1 ∧ 1 < 32 ∧ 1 < 2 ^ 1) ∧ requant 1 1 32 = 0xFFFFFFFF ∧ (0 < 1 ∧ 1 < 32) ∧
      requant 0x80000000 32 1 = 0x80000000 >>> 31 ∧ (5 ∣ 8 + 2 ∧ ¬ 5 ∣ 8 + 1 ∧ 5 ∣ 8 + 7) := by decide

/-- A read that ends exactly at IN_LEN, and one byte more. -/
theorem test_witness_rdu :
    ((4#3, 8) ∈ widths ∧ (inState [1, 2, 3, 4, 5, 6, 7, 8]).inPos.toNat + 8 ≤
      (inState [1, 2, 3, 4, 5, 6, 7, 8]).inLen.toNat) ∧
    ((2#3, 3) ∈ widths ∧ (inState [1, 2]).inLen.toNat < (inState [1, 2]).inPos.toNat + 3) := by decide

/-- A write that ends exactly at OUT_SIZE, and one byte more, for WRU, WRNIB and ENCPIX of whole bytes. -/
theorem test_witness_out :
    ((1#3, 2) ∈ widths ∧ { State.reset with outLen := 4094#32 }.outLen.toNat + 2 ≤ State.reset.params.outSize) ∧
    (outFull State.reset).params.outSize < (outFull State.reset).outLen.toNat + 1 ∧
    ((withNibw 5#4 (outFull State.reset)).status.nibwPend = true ∧
      (withNibw 5#4 (outFull State.reset)).arg0.toNat ≤ 15) ∧
    ((withFmt 0x5185#32 (outFull State.reset)).status.fmtValid = true ∧ layoutOf 0x5185#32 = some .rgba ∧
      isNibble .rgba 0x5185#32 = false ∧ (outFull State.reset).params.outSize <
        (outFull State.reset).outLen.toNat + unitSize .rgba 0x5185#32) := by decide

/-- ENCPIX of a second nibble with OUT full: CAPACITY, the packer kept (R196, R154). -/
theorem test_witness_out_nibble :
    isNibble .la 0x01100000#32 = true ∧ layoutOf 0x01100000#32 = some .la ∧
      run 0x33 (withNibw 5#4 (withFmt 0x01100000#32 (outFull State.reset)))
        (fun t => (t.status.word, t.nibw, t.outLen)) = some (0x33070011#32, 5#4, 4096#32) := by decide

/-- SAVE of a container of 34 bytes with 33 in OUT (R285); the addresses are `test_witness_pixels`'. -/
theorem test_witness_out_save :
    { loaded .identity smallL4 with params := { State.reset.params with outSize := 33 } }.params.outSize < 32 + 2 * 2 / 2 ∧
      run 0x51 { loaded .identity smallL4 with params := { State.reset.params with outSize := 33 } } results =
        some (0x51070004, 4, 0) := by decide +kernel

theorem test_witness_wrnib :
    ((argState 15).arg0.toNat ≤ 15 ∧ (argState 15).status.nibwPend = false) ∧
    ((withNibw 5#4 (argState 15)).status.nibwPend = true ∧
      (withNibw 5#4 (argState 15)).outLen.toNat + 1 ≤ State.reset.params.outSize) ∧
    15 < (argState 16).arg0.toNat := by decide

/-- Valid at T = 8 and T = 32; invalid at T = 33. -/
theorem test_witness_setfmt :
    ValidDescriptor 0x000020C3#32 ∧ ValidDescriptor 0x00208208#32 ∧ ¬ ValidDescriptor 0x00248208#32 := by
  unfold ValidDescriptor; decide

theorem test_witness_setfmtid :
    formatIds[(11#4 : BitVec 4).toNat]? = some 0x01100000#32 ∧ (13#4 : BitVec 4).toNat = 13 ∧
      14 ≤ (14#4 : BitVec 4).toNat := by decide

/-- Section 2.3's round trip with id 3, and the hypotheses of the other families. -/
theorem test_witness_colour :
    (checkFmt 0x00005185#32 = none ∧ layoutOf 0x00005185#32 = some .rgba ∧
      decodeUnit .rgba 0x00005185#32 (encodeUnit .rgba 0x00005185#32 0xFF847F3C#32) = 0xFF847D39#32) ∧
    (checkFmt 0x01200000#32 = none ∧ layoutOf 0x01200000#32 = some .la) ∧
    (checkFmt 0x02200008#32 = none ∧ layoutOf 0x02200008#32 = some .hl) ∧
    (ShallowDepths 0x02200008#32 ∧ 0xFFFF < 2 ^ totalDepth .hl 0x02200008#32) := by
  unfold ShallowDepths; decide

/-- Whole-byte units: the last unit of the data, one byte short of it, and the end. -/
theorem test_witness_decpix :
    (isNibble .rgba 0x5185#32 = false ∧
      (withFmt 0x5185#32 (inState [1, 2])).inPos.toNat + unitSize .rgba 0x5185#32 ≤
        (withFmt 0x5185#32 (inState [1, 2])).inLen.toNat) ∧
    ((withFmt 0x5185#32 (inState [1])).inPos.toNat < (withFmt 0x5185#32 (inState [1])).inLen.toNat ∧
      (withFmt 0x5185#32 (inState [1])).inLen.toNat <
        (withFmt 0x5185#32 (inState [1])).inPos.toNat + unitSize .rgba 0x5185#32) ∧
    (withFmt 0x5185#32 State.reset).inLen.toNat ≤ (withFmt 0x5185#32 State.reset).inPos.toNat ∧
    State.reset.status.fmtValid = false := by decide

/-- Nibble formats: a pending nibble, a fresh byte, and no byte left; `test_decpix_la44` is a pixel that DECPIX produces. -/
theorem test_witness_decpix_nibbles :
    (isNibble .la 0x01000004#32 = true ∧ layoutOf 0x01000004#32 = some .la) ∧
    { withFmt 0x01000004#32 State.reset with
      nibr := 3#4, status := { Status.reset with fmtValid := true, nibrPend := true } }.status.nibrPend = true ∧
    ((withFmt 0x01000004#32 (inState [0xA5])).status.nibrPend = false ∧
      (withFmt 0x01000004#32 (inState [0xA5])).inPos.toNat + 1 ≤ (inState [0xA5]).inLen.toNat) ∧
    (withFmt 0x01000004#32 State.reset).inLen.toNat < (withFmt 0x01000004#32 State.reset).inPos.toNat + 1 := by decide

theorem test_witness_encpix :
    ((withFmt 0x5185#32 State.reset).status.fmtValid = true ∧ layoutOf 0x5185#32 = some .rgba ∧
      isNibble .rgba 0x5185#32 = false ∧
      { State.reset with outLen := 4094#32 }.outLen.toNat + unitSize .rgba 0x5185#32 ≤ State.reset.params.outSize) ∧
    (isNibble .la 0x01100000#32 = true ∧ (withFmt 0x01100000#32 State.reset).status.nibwPend = false ∧
      (withNibw 5#4 (withFmt 0x01100000#32 State.reset)).status.nibwPend = true) := by decide

theorem test_witness_taddr :
    (1 ≤ (tiled 4 9).tileK.toNat ∧ (tiled 4 9).tileRk.toNat ≤ 16 ∧ (tiled 4 9).tileStride ≠ 0#32) ∧
    State.reset.tileK.toNat = 0 ∧ 16 < (17#5 : BitVec 5).toNat ∧ (tiled 0 9).tileStride = 0#32 := by decide

/-- Stride 8 and n = 45 = 101101b: the even bits give 3, the odd bits 6 (R244). -/
theorem test_witness_z_order : 1 ≤ 8 ∧ addrWith (zOrder 3) [] (0, 0) 8 45 = (3, 6) := by decide

theorem test_witness_regular : Regular [(0, 1), (1, 0)] 1 1 := by unfold Regular; decide

theorem test_witness_set3ds :
    (bitsOf (argState 0x00010001).arg0 0 16 ≠ 0 ∧ bitsOf (argState 0x00010001).arg0 16 16 ≠ 0) ∧
      bitsOf (argState 0x00000008).arg0 16 16 = 0 := by decide

theorem test_witness_t3ds :
    ((set3ds .rotateCcw 8 8 1).status.t3dsValid = true ∧ (set3ds .rotateCcw 8 8 1).tileK.toNat = 6 ∧
      (set3ds .rotateCcw 8 8 1).tileRk.toNat ≤ 16 ∧ (set3ds .rotateCcw 8 8 1).tileStride ≠ 0#32) ∧
    State.reset.status.t3dsValid = false ∧
    ({ set3ds .rotateCcw 8 8 1 with tileK := 0#5 }.status.t3dsValid = true ∧
      { set3ds .rotateCcw 8 8 1 with tileK := 0#5 }.tileK.toNat = 0) := by decide

theorem test_witness_addr3ds : 8 % 8 = 0 ∧ 0 % 8 = 0 ∧ PixelAt .rotateCcw 8 8 8 8 1 0 6 := by unfold PixelAt; decide

/-- The four addresses of a 2 x 2 image, and the third of a 3 x 1 image, which leaves it. -/
theorem test_witness_pixels :
    (∀ i, i < 4 → ∃ x y, PixelAt .identity 2 2 2 2 i x y) ∧
    (∀ i, i < 2 → ∃ x y, PixelAt .identity 3 1 3 1 i x y) ∧ ∀ x y, ¬ PixelAt .identity 3 1 3 1 2 x y := by
  refine ⟨fun i hi => ?_, fun i hi => ?_, fun x y h => ?_⟩
  · refine ⟨i % 2, i / 2, ?_⟩
    unfold PixelAt
    revert i; decide
  · refine ⟨i, 0, ?_⟩
    unfold PixelAt
    revert i; decide
  · have e : addr3ds 2 .identity 3 1 = (0, 1) := by decide
    unfold PixelAt at h
    rw [e, Prod.mk.injEq] at h
    omega

/-- R280 and R281 by hand on the bytes 0x70, 0x71, ... and 0x78, 0x79, ...: dataSize is bytes 4 to 7, formatId 12 to 15, width 16
and 17, height 18 and 19, each negative when its last byte is above 0x7F. -/
theorem test_header_fields :
    headerOf (inHeader (inState ((List.range 32).map (0x70 + ·)))) =
        ⟨0x77767574, 0x7F7E7D7C, 0x8180 - 0x10000, 0x8382 - 0x10000⟩ ∧
      headerOf (inHeader (inState ((List.range 32).map (0x78 + ·)))) =
        ⟨0x7F7E7D7C, 0x87868584 - 0x100000000, 0x8988 - 0x10000, 0x8B8A - 0x10000⟩ := by decide +kernel

/-- The container's table at its edges (R185): ids 0 and 11, and no entry for -1 and 12. -/
theorem test_container_formats :
    tableFormat 0 = some (.rgba, 0x00208208#32) ∧ tableFormat 11 = some (.la, 0x01100000#32) ∧ tableFormat (-1) = none ∧
      tableFormat 12 = none := by decide +kernel

/-- LOAD of the 2 x 2 container, whose payload is exactly as long as its pixels. -/
theorem test_witness_load :
    32 ≤ (inState smallL4).inLen.toNat ∧ headerOf (inHeader (inState smallL4)) = ⟨2, 10, 2, 2⟩ ∧
      32 + 2 ≤ (inState smallL4).inLen.toNat ∧ tableFormat 10 = some (.la, 0x01000004#32) ∧
      2 * 2 ≤ State.reset.params.bmpWords ∧ payloadNeed .la 0x01000004#32 (2 * 2) ≤ 2 := by decide +kernel

/-- LOAD of an RGBA payload with 1 of 4 pixels, and with none. -/
theorem test_witness_load_short :
    headerOf (inHeader (inState (container 4 0 2 2 [1, 2, 3, 4]))) = ⟨(1 * unitSize .rgba 0x00208208#32 : Nat), 0, 2, 2⟩ ∧
    headerOf (inHeader (inState (container 0 0 2 2 []))) = ⟨(0 * unitSize .rgba 0x00208208#32 : Nat), 0, 2, 2⟩ ∧
    tableFormat 0 = some (.rgba, 0x00208208#32) := by decide +kernel

/-- LOAD's IO at a pixel (R283, R284): nibble 2 of a payload of one byte, and an RGBA unit 1 cut after two bytes; the sizes lie
where the statement's hypotheses ask, and the addresses are `test_witness_pixels`'. -/
theorem test_witness_load_io :
    (payloadNeed .la 0x01000004#32 2 ≤ 1 ∧ 1 < payloadNeed .la 0x01000004#32 (2 + 1) ∧
      run 0x50 (inState (container 1 10 2 2 [0xA5])) results = some (0x50040000, 0, 0)) ∧
    (payloadNeed .rgba 0x00208208#32 1 ≤ 6 ∧ 6 < payloadNeed .rgba 0x00208208#32 (1 + 1) ∧
      6 ≠ payloadNeed .rgba 0x00208208#32 1 ∧
      run 0x50 (inState (container 6 0 2 2 [1, 2, 3, 4, 5, 6])) results = some (0x50040000, 0, 0)) := by decide +kernel

/-- The header's refusals: 31 bytes; a negative and a too long payload; ids 12, 14 and -1; a zero dimension; 65 x 64 pixels. -/
theorem test_witness_load_checks :
    { inState smallL4 with inLen := 31#32 }.inLen.toNat < 32 ∧
    (headerOf (inHeader (inState ((container 255 10 2 2 []).mapIdx fun i b => if 4 ≤ i ∧ i < 8 then 255 else b)))).dataSize < 0 ∧
    ((inState smallL4).inLen.toNat : Int) < 32 + (headerOf (inHeader (inState (container 3 10 2 2 [])))).dataSize ∧
    (headerOf (inHeader (inState (container 0 12 2 2 [])))).formatId = 12 ∧
    (headerOf (inHeader (inState (container 0 14 2 2 [])))).formatId = 14 ∧
    (headerOf (inHeader (inState (container 0 10 0 2 [])))).width = 0 ∧
    (State.reset.params.bmpWords : Int) < (headerOf (inHeader (inState (container 0 10 65 64 [])))).width *
      (headerOf (inHeader (inState (container 0 10 65 64 [])))).height := by decide +kernel

/-- SAVE of the state that LOAD left, with the room for exactly its container; the statement's other hypotheses are
`test_witness_load`'s and `test_witness_pixels`'. -/
theorem test_witness_save :
    (loaded .identity smallL4).status.err = .noError ∧ (loaded .identity smallL4).status.hdrValid = true ∧
      headerOf (loaded .identity smallL4).hdr = ⟨2, 10, 2, 2⟩ ∧ (loaded .identity smallL4).bmpW.toNat = 2 ∧
      (loaded .identity smallL4).bmpH.toNat = 2 ∧ (loaded .identity smallL4).status.short = false ∧
      isNibble .la 0x01000004#32 = true ∧ 32 + 2 * 2 / 2 ≤ (loaded .identity smallL4).params.outSize ∧
      ({ loaded .identity smallL4 with bmpW := 3#16 }.bmpW.toNat : Int) ≠ (headerOf (loaded .identity smallL4).hdr).width := by
  decide +kernel

/-- The same for a format of whole bytes, L8. -/
theorem test_witness_save_bytes :
    run 0x51 (loaded .identity (container 4 7 2 2 [1, 2, 3, 4])) (fun t => (results t, listed t.outBuf)) =
      some ((4, 4, 0), container 4 7 2 2 [1, 2, 3, 4]) := by decide +kernel

/-- A header latched for 3 x 1 pixels, as LOAD with another orientation leaves it, and SAVE's BOUNDS there. -/
theorem test_witness_save_bounds :
    run 0x51
      { loaded .identity smallL4 with
        hdr := (loaded .identity smallL4).hdr.set 4 0x00010003#32, bmpW := 3#16, bmpH := 1#16 } results =
      some (0x51080004, 2, 0) := by decide +kernel

/-- The invariant's witness: the state after reset. -/
theorem test_witness_invariant : StateInv State.reset := by
  refine ⟨?_, ?_, ?_, ?_, ?_, ?_, ?_, ?_, ?_, ?_, ?_, ?_⟩ <;> decide

/-- The invariant of a state with IN written, where the round trip's LOAD runs. -/
theorem test_witness_round_trip :
    StateInv (inState smallL4) ∧ exec (.load .identity false) (inState smallL4) = .next (loaded .identity smallL4) := by
  refine ⟨⟨?_, ?_, ?_, ?_, ?_, ?_, ?_, ?_, ?_, ?_, ?_, ?_⟩, loaded_of_results (r := (4, 4, 0)) ?_⟩ <;> decide +kernel

/-- SAVE from another state than LOAD's: other accesses, operands and a pending nibble between; the header, the bitmap and its
dimensions as LOAD left them (R286). -/
theorem test_witness_round_trip_later :
    let t := loaded .identity smallL4
    let t' := withNibw 9#4 { queued (.read 4 4) t with arg0 := 7#32, outLen := 5#32 }
    (t'.status.err = .noError ∧ t'.status.hdrValid = t.status.hdrValid) ∧ (t'.hdr = t.hdr ∧ t'.bmp = t.bmp) ∧
      (t'.bmpW = t.bmpW ∧ t'.bmpH = t.bmpH) ∧ t'.params = t.params ∧ t'.powerOns = t.powerOns ∧
      run 0x51 t' (fun u => listed u.outBuf) = some smallL4 := by decide +kernel

theorem test_witness_register_access :
    WritesReg (queued (.write 0x1C 4 5#32) State.reset) 0x1C 5#32 [] ∧
      ReadsReg (queued (.read 0x60 4) State.reset) (0x060 + 4 * (0 : Fin 8).val) [] ∧
      WritesReg (queued (.write 0xFC 4 5#32) State.reset) (0x0C0 + 4 * (15 : Fin 16).val) 5#32 [] := ⟨rfl, rfl, rfl⟩

/-- The first and the last access of each window, and a buffer's last byte within it. -/
theorem test_witness_window_access :
    WindowAccess .inp 0 4 ∧ WindowAccess .inp 0xFFFFF 1 ∧ WindowAccess .out 0x1FFFFE 2 ∧ WindowAccess .bmp 0x3FFFFC 4 ∧
      (queued (.write 0x100FFF 1 7#32) State.reset).pending =
        .write (State.reset.params.base + windowBase .inp + 4095) 1 7#32 :: [] ∧
      (queued (.read 0x7FFFFC 4) State.reset).pending =
        .read (State.reset.params.base + windowBase .bmp + 0x3FFFFC) 4 :: [] := by
  unfold WindowAccess; decide

theorem test_witness_misaligned :
    ((queued (.read 0xFFFFE 4) State.reset).pending = .read (State.reset.params.base + 0xFFFFE) 4 :: [] ∧
      0xFFFFE % 4 ≠ 0) ∧
    ((queued (.write 0x100001 2 7#32) State.reset).pending = .write (State.reset.params.base + 0x100001) 2 7#32 :: [] ∧
      0x100001 % 2 ≠ 0) := by decide

end Sys2Proof.Tests
end

section
/-! The requantizer's statements (41_requantizer.md R130 to R133): the upscale loop, bit replication, and what follows. -/

namespace Sys2Proof.Machine

/-! ### The cases of requant (R130) -/

@[simp] theorem requant_self (v n : Nat) : requant v n n = v := by simp [requant]

@[simp] theorem requant_zero_value (f t : Nat) : requant 0 f t = 0 := by simp [requant]

theorem requant_of_absent_depth {v f t : Nat} (hne : f ≠ t) (h : f = 0 ∨ t = 0) : requant v f t = 0 := by
  simp [requant, hne, h]

/-- The upscale case, with the loop's pair (R, d) as the search returns it. -/
theorem requant_up {f t : Nat} (hf : 0 < f) (hft : f < t) (v : Nat) :
    requant v f t = v * ((doublingSearch (2 ^ f - 1) f (2 ^ t - 1) 1).1 / (2 ^ f - 1)) /
      (doublingSearch (2 ^ f - 1) f (2 ^ t - 1) 1).2 := by
  have habsent : ¬ (f = 0 ∨ t = 0) := by omega
  simp [requant, hft.ne, habsent, hft]

/-- The downscale case is a right shift (R132). -/
theorem requant_down {f t : Nat} (ht : 0 < t) (htf : t < f) (v : Nat) : requant v f t = v >>> (f - t) := by
  have habsent : ¬ (f = 0 ∨ t = 0) := by omega
  rw [Nat.shiftRight_eq_div_pow, ← Nat.pow_div htf.le Nat.two_pos]
  simp [requant, htf.ne', habsent, htf.not_gt]

/-- Down to a depth at most the old one, the identity being the shift by 0. -/
theorem requant_eq_shiftRight {f t : Nat} (ht : 0 < t) (htf : t ≤ f) (v : Nat) : requant v f t = v >>> (f - t) := by
  obtain rfl | hlt := htf.eq_or_lt
  · simp
  · exact requant_down ht hlt v

/-! ### The loop of the upscale case (R131) -/

/-- The loop's test on R = 2^m - 1: M = 2^f - 1 divides it exactly when f divides m. -/
theorem two_pow_sub_one_mod_eq_zero_iff (f m : Nat) : (2 ^ m - 1) % (2 ^ f - 1) = 0 ↔ f ∣ m := by
  have hone : 2 ^ (m % f) ≤ 2 ^ 0 ↔ m % f ≤ 0 := Nat.pow_le_pow_iff_right Nat.one_lt_two
  rw [Nat.pow_sub_one_mod_pow_sub_one, Nat.dvd_iff_mod_eq_zero, Nat.sub_eq_zero_iff_le]
  simpa using hone

/-- One round of the loop appends a 1 to R. -/
theorem two_mul_two_pow_sub_one (m : Nat) : 2 * (2 ^ m - 1) + 1 = 2 ^ (m + 1) - 1 := by
  have := Nat.two_pow_pos m
  rw [pow_succ]
  omega

/-- From round j on, the search stops at round k when k is the first from j on for which f divides t + k. -/
theorem doublingSearch_from {f t k : Nat} (hk : f ∣ t + k) (fuel j : Nat) (hjk : j ≤ k) (hfuel : k ≤ j + fuel)
    (hmin : ∀ i, j ≤ i → i < k → ¬ f ∣ t + i) :
    doublingSearch (2 ^ f - 1) fuel (2 ^ (t + j) - 1) (2 ^ j) = (2 ^ (t + k) - 1, 2 ^ k) := by
  induction fuel generalizing j with
  | zero =>
    obtain rfl : j = k := by omega
    rfl
  | succ fuel ih =>
    rw [doublingSearch]
    obtain rfl | hlt := hjk.eq_or_lt
    · rw [if_pos ((two_pow_sub_one_mod_eq_zero_iff f _).2 hk)]
    · rw [if_neg (mt (two_pow_sub_one_mod_eq_zero_iff f _).1 (hmin j le_rfl hlt)), two_mul_two_pow_sub_one,
        ← pow_succ', Nat.add_assoc]
      exact ih (j + 1) hlt (by omega) fun i hi => hmin i (by omega)

/-- Fewer than f rounds reach a multiple of f, so there is a first one. -/
theorem exists_least_dvd_add {f : Nat} (hf : 0 < f) (t : Nat) :
    ∃ k, k < f ∧ f ∣ t + k ∧ ∀ j, j < k → ¬ f ∣ t + j := by
  have hex : ∃ k, k < f ∧ f ∣ t + k := by
    obtain hr | hr := Nat.eq_zero_or_pos (t % f)
    · exact ⟨0, hf, Nat.dvd_of_mod_eq_zero hr⟩
    · have hlt := Nat.mod_lt t hf
      refine ⟨f - t % f, by omega, t / f + 1, ?_⟩
      have := Nat.div_add_mod t f
      rw [Nat.mul_succ]
      omega
  obtain ⟨hlt, hdvd⟩ := Nat.find_spec hex
  exact ⟨Nat.find hex, hlt, hdvd, fun j hj hd => Nat.find_min hex hj ⟨hj.trans hlt, hd⟩⟩

/-- What the loop of R130 computes: it stops after the least k for which f divides t + k. -/
theorem exists_doublingSearch_eq {f : Nat} (hf : 0 < f) (t : Nat) :
    ∃ k, k < f ∧ f ∣ t + k ∧ (∀ j, j < k → ¬ f ∣ t + j) ∧
      doublingSearch (2 ^ f - 1) f (2 ^ t - 1) 1 = (2 ^ (t + k) - 1, 2 ^ k) := by
  obtain ⟨k, hkf, hdvd, hmin⟩ := exists_least_dvd_add hf t
  exact ⟨k, hkf, hdvd, hmin,
    doublingSearch_from hdvd f 0 (Nat.zero_le k) (by omega) fun j _ hj => hmin j hj⟩

/-! ### A pattern written several times -/

/-- The f-bit pattern of v written m times: `v * (R / M)` of R131 with `m = (t + k) / f`. -/
def repeatedPattern (v f m : Nat) : Nat := v * ∑ i ∈ Finset.range m, 2 ^ (f * i)

theorem repeatedPattern_succ (v f m : Nat) :
    repeatedPattern v f (m + 1) = 2 ^ (f * m) * v + repeatedPattern v f m := by
  rw [repeatedPattern, Finset.sum_range_succ, Nat.mul_add, Nat.add_comm, Nat.mul_comm v (2 ^ (f * m)), repeatedPattern]

theorem repeatedPattern_lt {v f : Nat} (hv : v < 2 ^ f) (m : Nat) : repeatedPattern v f m < 2 ^ (f * m) := by
  induction m with
  | zero => simp [repeatedPattern]
  | succ m ih =>
    calc repeatedPattern v f (m + 1)
        = 2 ^ (f * m) * v + repeatedPattern v f m := repeatedPattern_succ v f m
      _ < 2 ^ (f * m) * v + 2 ^ (f * m) := Nat.add_lt_add_left ih _
      _ = 2 ^ (f * m) * (v + 1) := (Nat.mul_succ _ _).symm
      _ ≤ 2 ^ (f * m) * 2 ^ f := Nat.mul_le_mul_left _ hv
      _ = 2 ^ (f * (m + 1)) := by rw [← pow_add, Nat.mul_succ]

theorem testBit_repeatedPattern {v f : Nat} (hv : v < 2 ^ f) (m p : Nat) (hp : p < f * m) :
    (repeatedPattern v f m).testBit p = v.testBit (p % f) := by
  induction m with
  | zero => simp at hp
  | succ m ih =>
    rw [repeatedPattern_succ, Nat.testBit_two_pow_mul_add v (repeatedPattern_lt hv m)]
    split
    · next hlow => exact ih hlow
    · next hhigh =>
      have hle : f * m ≤ p := Nat.le_of_not_lt hhigh
      have hlt : p - f * m < f := by rw [Nat.mul_succ] at hp; omega
      rw [← Nat.sub_mul_mod hle, Nat.mod_eq_of_lt hlt]

/-- R / M is the sum of the powers 2^(f*i) (R131). -/
theorem two_pow_sub_one_div_eq_sum {f n : Nat} (hf : 0 < f) (hn : f ∣ n) :
    (2 ^ n - 1) / (2 ^ f - 1) = ∑ i ∈ Finset.range (n / f), 2 ^ (f * i) := by
  have hbase : 2 ≤ 2 ^ f := Nat.le_self_pow hf.ne' 2
  simp_rw [pow_mul]
  rw [Nat.geomSum_eq hbase, ← pow_mul, Nat.mul_div_cancel' hn]

theorem mul_div_eq_repeatedPattern {f n : Nat} (hf : 0 < f) (hn : f ∣ n) (v : Nat) :
    v * ((2 ^ n - 1) / (2 ^ f - 1)) = repeatedPattern v f (n / f) := by
  rw [two_pow_sub_one_div_eq_sum hf hn, repeatedPattern]

/-! ### Upscaling is bit replication (R131) -/

/-- The top t bits of v's pattern repeated over t + k bits, whichever k makes f divide t + k. -/
theorem testBit_mul_div_two_pow {v f t k : Nat} (hf : 0 < f) (hv : v < 2 ^ f) (hk : f ∣ t + k) (i : Nat) :
    (v * ((2 ^ (t + k) - 1) / (2 ^ f - 1)) / 2 ^ k).testBit i =
      (decide (i < t) && v.testBit (f - 1 - (t - 1 - i) % f)) := by
  have hlen : f * ((t + k) / f) = t + k := Nat.mul_div_cancel' hk
  rw [mul_div_eq_repeatedPattern hf hk, Nat.testBit_div_two_pow]
  by_cases hi : i < t
  · have hpos : i + k = f * ((t + k) / f) - (t - 1 - i + 1) := by omega
    have hmod : (i + k) % f = f - 1 - (t - 1 - i) % f := by
      rw [hpos, Nat.mul_sub_mod (by omega)]
      omega
    rw [testBit_repeatedPattern hv _ _ (by omega), hmod]
    simp [hi]
  · have hlt : repeatedPattern v f ((t + k) / f) < 2 ^ (i + k) :=
      (repeatedPattern_lt hv _).trans_le (Nat.pow_le_pow_right Nat.two_pos (by omega))
    simp [hi, Nat.testBit_lt_two_pow hlt]

/-- Any k with f dividing t + k gives the loop's result (R131). -/
theorem requant_up_eq {v f t k : Nat} (hf : 0 < f) (hft : f < t) (hv : v < 2 ^ f) (hk : f ∣ t + k) :
    requant v f t = v * ((2 ^ (t + k) - 1) / (2 ^ f - 1)) / 2 ^ k := by
  obtain ⟨least, -, hdvd, -, hsearch⟩ := exists_doublingSearch_eq hf t
  rw [requant_up hf hft, hsearch]
  refine Nat.eq_of_testBit_eq fun i => ?_
  rw [testBit_mul_div_two_pow hf hv hdvd, testBit_mul_div_two_pow hf hv hk]

/-- The bits of an upscaled value. -/
theorem testBit_requant_up {v f t : Nat} (hf : 0 < f) (hft : f < t) (hv : v < 2 ^ f) (i : Nat) :
    (requant v f t).testBit i = (decide (i < t) && v.testBit (f - 1 - (t - 1 - i) % f)) := by
  obtain ⟨k, -, hk, -⟩ := exists_least_dvd_add hf t
  rw [requant_up_eq hf hft hv hk, testBit_mul_div_two_pow hf hv hk]

theorem requant_up_lt {v f t : Nat} (hf : 0 < f) (hft : f < t) (hv : v < 2 ^ f) : requant v f t < 2 ^ t := by
  refine Nat.lt_pow_two_of_testBit _ fun i hi => ?_
  rw [testBit_requant_up hf hft hv, decide_eq_false hi.not_gt, Bool.false_and]

/-- The bits of an upscaled value from the most significant end: the endless repetition of v's pattern. -/
theorem testBit_requant_up_from_top {v f t j : Nat} (hf : 0 < f) (hft : f < t) (hv : v < 2 ^ f) (hj : j < t) :
    (requant v f t).testBit (t - 1 - j) = v.testBit (f - 1 - j % f) := by
  have htop : t - 1 - (t - 1 - j) = j := by omega
  rw [testBit_requant_up hf hft hv, htop, decide_eq_true (by omega), Bool.true_and]

/-- The largest value of the loop, v * (R / M), fits t + f bits (R131). -/
theorem mul_div_lt_two_pow {v f t k : Nat} (hf : 0 < f) (hv : v < 2 ^ f) (hk : f ∣ t + k) (hkf : k < f) :
    v * ((2 ^ (t + k) - 1) / (2 ^ f - 1)) < 2 ^ (t + f) := by
  rw [mul_div_eq_repeatedPattern hf hk]
  refine (repeatedPattern_lt hv _).trans_le (Nat.pow_le_pow_right Nat.two_pos ?_)
  rw [Nat.mul_div_cancel' hk]
  omega

/-! ### Full range and monotonicity (R133) -/

/-- The greatest value of one depth becomes the greatest of the other. -/
theorem requant_full_range {f t : Nat} (hf : 0 < f) (ht : 0 < t) : requant (2 ^ f - 1) f t = 2 ^ t - 1 := by
  refine Nat.eq_of_testBit_eq fun i => ?_
  obtain hft | htf := lt_or_ge f t
  · have hbit : f - 1 - (t - 1 - i) % f < f := by omega
    rw [testBit_requant_up hf hft (Nat.sub_lt (Nat.two_pow_pos f) Nat.one_pos)]
    simp only [Nat.testBit_two_pow_sub_one, hbit, decide_true, Bool.and_true]
  · have hshift : f - t + i < f ↔ i < t := by omega
    rw [requant_eq_shiftRight ht htf]
    simp only [Nat.testBit_shiftRight, Nat.testBit_two_pow_sub_one, hshift]

/-- Every case of R130 multiplies and divides v by numbers that do not depend on it. -/
theorem requant_mono {v₁ v₂ : Nat} (h : v₁ ≤ v₂) (f t : Nat) : requant v₁ f t ≤ requant v₂ f t := by
  by_cases heq : f = t
  · subst heq
    simpa using h
  by_cases habsent : f = 0 ∨ t = 0
  · rw [requant_of_absent_depth heq habsent, requant_of_absent_depth heq habsent]
  obtain hft | htf := lt_or_gt_of_ne heq
  · rw [requant_up (by omega) hft, requant_up (by omega) hft]
    exact Nat.div_le_div_right (Nat.mul_le_mul_right _ h)
  · rw [requant_down (by omega) htf, requant_down (by omega) htf]
    simp only [Nat.shiftRight_eq_div_pow]
    exact Nat.div_le_div_right h

/-! ### The statements -/

/-- Settles O16: the loop's closed form and the bits of a repeated pattern. -/
theorem requantClosedForms : Obligations.RequantClosedForms := by
  unfold Obligations.RequantClosedForms
  refine ⟨fun v f t hf hft hv => ⟨requant_up_lt hf hft hv, fun j hj => testBit_requant_up_from_top hf hft hv hj, ?_,
    fun k hk => ⟨two_pow_sub_one_div_eq_sum hf hk, requant_up_eq hf hft hv hk⟩⟩,
    fun v f t ht htf => requant_down ht htf v⟩
  obtain ⟨k, hkf, hk, hmin, hsearch⟩ := exists_doublingSearch_eq hf t
  have hR : 2 ^ (t + k) - 1 < 2 ^ (t + f) :=
    (Nat.sub_le _ _).trans_lt (Nat.pow_lt_pow_right Nat.one_lt_two (by omega))
  exact ⟨k, hkf, hk, hmin, hsearch, hR, mul_div_lt_two_pow hf hv hk hkf⟩

/-- Settles O17: one part of R133 after the other, by the cases of requant. -/
theorem requantProperties : Obligations.RequantProperties := by
  unfold Obligations.RequantProperties
  refine ⟨fun n v => requant_self v n, requant_zero_value, fun f t h => ?fullRange,
    fun v f t h => requant_of_absent_depth (by omega) (by omega), fun c d _ hd hd8 => ?roundTrip, by decide,
    fun v₁ v₂ f t h _ => requant_mono h f t⟩
  case fullRange =>
    obtain ⟨hf, ht⟩ | rfl := h
    · exact requant_full_range hf ht
    · exact requant_self _ f
  case roundTrip => rw [requant_eq_shiftRight hd hd8 c]

end Sys2Proof.Machine
end

section
/-! Pixel-format descriptors read by arithmetic on the word (10_state.md R37, 43_pixel_codec.md R180 to R184): the fields, the
family, unit sizes, and which words `checkFmt` passes. -/

namespace Sys2Proof.Machine

open Sys2Proof.Claims

/-! ### Fields of a word -/

theorem bitsOf_lt (w : Word) (lo n : Nat) : bitsOf w lo n < 2 ^ n := Nat.mod_lt _ (Nat.two_pow_pos n)

theorem field_eq_bitsOf (w : Word) (lo n : Nat) : field w lo n = bitsOf w lo n := by
  rw [field, BitVec.extractLsb'_toNat, Nat.shiftRight_eq_div_pow, bitsOf]

theorem extractLsb'_eq_iff {w : Word} {lo n : Nat} {v : BitVec n} :
    w.extractLsb' lo n = v ↔ bitsOf w lo n = v.toNat := by
  rw [← field_eq_bitsOf, field, BitVec.toNat_inj]

theorem getLsbD_iff_bitsOf (w : Word) (i : Nat) : w.getLsbD i = true ↔ bitsOf w i 1 = 1 := by
  rw [← BitVec.testBit_toNat, Nat.testBit_eq_decide_div_mod_eq, decide_eq_true_iff, bitsOf, pow_one]

/-! ### The descriptor's fields (10_state R37) -/

@[simp] theorem fmtD0_eq (w : Word) : fmtD0 w = depth w 0 := field_eq_bitsOf w 0 6
@[simp] theorem fmtD1_eq (w : Word) : fmtD1 w = depth w 1 := field_eq_bitsOf w 6 6
@[simp] theorem fmtD2_eq (w : Word) : fmtD2 w = depth w 2 := field_eq_bitsOf w 12 6
@[simp] theorem fmtD3_eq (w : Word) : fmtD3 w = depth w 3 := field_eq_bitsOf w 18 6

@[simp] theorem fmtFamily_eq_iff (w : Word) (f : BitVec 2) : fmtFamily w = f ↔ bitsOf w 24 2 = f.toNat :=
  extractLsb'_eq_iff

@[simp] theorem fmtBe_iff (w : Word) : fmtBe w = true ↔ bitsOf w 26 1 = 1 := getLsbD_iff_bitsOf w 26
@[simp] theorem fmtSwap_iff (w : Word) : fmtSwap w = true ↔ bitsOf w 27 1 = 1 := getLsbD_iff_bitsOf w 27
@[simp] theorem fmtBlka_iff (w : Word) : fmtBlka w = true ↔ bitsOf w 28 1 = 1 := getLsbD_iff_bitsOf w 28

/-! ### Family and unit size (R180, R182, R184) -/

theorem layoutOf_eq (w : Word) :
    layoutOf w = if bitsOf w 24 2 = 0 then some .rgba else if bitsOf w 24 2 = 1 then some .la
      else if bitsOf w 24 2 = 2 then some .hl else none := by
  simp [layoutOf]

theorem layoutOf_eq_rgba_iff (w : Word) : layoutOf w = some .rgba ↔ bitsOf w 24 2 = 0 := by
  rw [layoutOf_eq]
  split_ifs <;> simp_all

theorem layoutOf_eq_la_iff (w : Word) : layoutOf w = some .la ↔ bitsOf w 24 2 = 1 := by
  rw [layoutOf_eq]
  split_ifs <;> simp_all

theorem layoutOf_eq_hl_iff (w : Word) : layoutOf w = some .hl ↔ bitsOf w 24 2 = 2 := by
  rw [layoutOf_eq]
  split_ifs <;> simp_all

@[simp] theorem totalDepth_eq (l : Layout) (w : Word) : totalDepth l w = unitBits l w := by
  cases l <;> simp [totalDepth, unitBits]

@[simp] theorem isNibble_rgba (w : Word) : isNibble .rgba w = false := rfl

theorem isNibble_iff {l : Layout} (hl : l ≠ .rgba) (w : Word) : isNibble l w = true ↔ unitBits l w = 4 := by
  simp [isNibble, hl]

theorem unitSize_rgba (w : Word) : unitSize .rgba w = unitBytes (unitBits .rgba w) := by simp [unitSize]

theorem unitSize_of_ne_rgba {l : Layout} (hl : l ≠ .rgba) (w : Word) : unitSize l w = unitBits l w / 8 := by
  cases l
  case rgba => exact absurd rfl hl
  all_goals simp [unitSize]

/-! ### Which words `checkFmt` passes (R181) -/

/-- The conditions of an RGBA descriptor. -/
def RgbaDepthsOk (w : Word) : Prop :=
  8 ≤ unitBits .rgba w ∧ unitBits .rgba w ≤ 32 ∧ depth w 0 + depth w 1 + depth w 2 ≠ 0

/-- The conditions of an LA or HL descriptor. -/
def LhDepthsOk (w : Word) : Prop :=
  depth w 1 = 0 ∧ depth w 2 = 0 ∧ bitsOf w 27 1 = 0 ∧
    (depth w 0 + depth w 3 = 4 ∨ depth w 0 + depth w 3 = 8 ∨ depth w 0 + depth w 3 = 16) ∧
    ¬(depth w 0 < 4 ∧ depth w 3 < 4)

theorem validDescriptor_iff (w : Word) :
    ValidDescriptor w ↔ bitsOf w 29 3 = 0 ∧ bitsOf w 28 1 = 0 ∧
      ((bitsOf w 24 2 = 0 ∧ RgbaDepthsOk w) ∨ ((bitsOf w 24 2 = 1 ∨ bitsOf w 24 2 = 2) ∧ LhDepthsOk w)) := Iff.rfl

theorem checkRgba_cases (w : Word) :
    (RgbaDepthsOk w ∧ checkRgba w = none) ∨ (¬ RgbaDepthsOk w ∧ checkRgba w = some .config) := by
  unfold checkRgba RgbaDepthsOk
  simp only [totalDepth_eq, fmtD0_eq, fmtD1_eq, fmtD2_eq]
  split_ifs
  · exact .inr ⟨by omega, rfl⟩
  · exact .inr ⟨by omega, rfl⟩
  · exact .inl ⟨by omega, rfl⟩

theorem checkLh_cases (w : Word) :
    (LhDepthsOk w ∧ checkLh w = none) ∨ (¬ LhDepthsOk w ∧ checkLh w = some .config) := by
  have hswap := bitsOf_lt w 27 1
  unfold checkLh LhDepthsOk
  simp only [fmtD0_eq, fmtD1_eq, fmtD2_eq, fmtD3_eq, fmtSwap_iff]
  split_ifs
  case neg => exact .inl ⟨by omega, rfl⟩
  all_goals exact .inr ⟨by omega, rfl⟩

/-- The checks of `checkFmt` on the word's fields, in the rule's order. -/
theorem checkFmt_eq (w : Word) :
    checkFmt w =
      if bitsOf w 29 3 ≠ 0 then some .config
      else if bitsOf w 24 2 = 3 then some .unsupported
      else if bitsOf w 28 1 = 1 then some .config
      else if bitsOf w 24 2 = 0 then checkRgba w
      else checkLh w := by
  simp [checkFmt, extractLsb'_eq_iff]

/-- The error of a word that is no valid descriptor: UNSUPPORTED for the block family with reserved bits 0, else CONFIG. -/
def descriptorError (w : Word) : CmdError :=
  if bitsOf w 29 3 = 0 ∧ bitsOf w 24 2 = 3 then .unsupported else .config

/-- A valid descriptor passes; every other word raises its error. -/
theorem checkFmt_cases (w : Word) :
    (ValidDescriptor w ∧ checkFmt w = none) ∨ (¬ ValidDescriptor w ∧ checkFmt w = some (descriptorError w)) := by
  have hfamily := bitsOf_lt w 24 2
  have hblka := bitsOf_lt w 28 1
  rw [checkFmt_eq, validDescriptor_iff, descriptorError]
  by_cases hreserved : bitsOf w 29 3 = 0
  case neg => exact .inr ⟨fun h => hreserved h.1, by simp [hreserved]⟩
  by_cases hblock : bitsOf w 24 2 = 3
  case pos => exact .inr ⟨by omega, by simp [hreserved, hblock]⟩
  by_cases hblka1 : bitsOf w 28 1 = 1
  case pos => exact .inr ⟨by omega, by simp [hblock, hblka1]⟩
  have hblka0 : bitsOf w 28 1 = 0 := by omega
  by_cases hrgba : bitsOf w 24 2 = 0
  · simpa [hreserved, hblka0, hrgba] using checkRgba_cases w
  · have hlh : bitsOf w 24 2 = 1 ∨ bitsOf w 24 2 = 2 := by omega
    simpa [hreserved, hblock, hblka0, hrgba, hlh] using checkLh_cases w

theorem checkFmt_of_valid {w : Word} (h : ValidDescriptor w) : checkFmt w = none := by
  obtain ⟨-, hc⟩ | ⟨hn, -⟩ := checkFmt_cases w
  · exact hc
  · exact absurd h hn

theorem checkFmt_of_not_valid {w : Word} (h : ¬ ValidDescriptor w) : checkFmt w = some (descriptorError w) := by
  obtain ⟨hv, -⟩ | ⟨-, hc⟩ := checkFmt_cases w
  · exact absurd hv h
  · exact hc

/-! ### SETFMT (R186) -/

/-- Neither of checkFmt's errors writes RES0 or RES1 (60_exceptions R323). -/
theorem errorEntry_descriptorError (op : BitVec 8) (w : Word) (s : State) :
    errorEntry op (descriptorError w) s = { s with
      status := { s.status with
        err := if bitsOf w 29 3 = 0 ∧ bitsOf w 24 2 = 3 then .unsupported else .config, errOp := op } } := by
  unfold descriptorError
  split_ifs <;> rfl

/-- Settles O24: SETFMT commits or raises as `checkFmt` answers. -/
theorem setfmtStoresOnlyValidDescriptors : Obligations.SetfmtStoresOnlyValidDescriptors := by
  unfold Obligations.SetfmtStoresOnlyValidDescriptors
  refine fun s he => ⟨fun hv => ?_, fun hn => ?_⟩
  · have hbody : setfmtBody s = .ok (activate s.arg0 s) := by simp [setfmtBody, checkFmt_of_valid hv]
    exact runCommand_ok he hbody
  · have hbody : setfmtBody s = .error (.raised (descriptorError s.arg0)) := by
      simp [setfmtBody, checkFmt_of_not_valid hn]
    rw [← errorEntry_descriptorError]
    exact runCommand_raised he hbody

end Sys2Proof.Machine
end

section
/-! One unit value (43_pixel_codec.md R183, R190 to R193): a channel's field, the fields of a unit packed side by side, and the
canonical colour they make. -/

namespace Sys2Proof.Machine

open Sys2Proof.Claims

/-! ### Channels and fields -/

/-- A value that fits its depth fits the depth it is brought to. -/
theorem requant_lt {v f : Nat} (hv : v < 2 ^ f) (t : Nat) : requant v f t < 2 ^ t := by
  by_cases heq : f = t
  · subst heq
    simpa using hv
  by_cases habsent : f = 0 ∨ t = 0
  · rw [requant_of_absent_depth heq habsent]
    exact Nat.two_pow_pos t
  obtain hft | htf := lt_or_gt_of_ne heq
  · exact requant_up_lt (by omega) hft hv
  · rw [requant_down (by omega) htf, Nat.shiftRight_eq_div_pow]
    refine Nat.div_lt_of_lt_mul ?_
    rwa [← pow_add, Nat.sub_add_cancel htf.le]

/-- A depth of 0 gives a channel 0 (R190). -/
theorem unpackChannel_eq (v sh d : Nat) : unpackChannel v sh d = unitField 0 v sh d := by
  rw [unpackChannel, unitField, Nat.and_two_pow_sub_one_eq_mod, Nat.shiftRight_eq_div_pow]
  split_ifs with hd
  · subst hd
    exact requant_of_absent_depth (by decide) (.inl rfl)
  · rfl

/-- A channel that has a value of its own when its depth is 0 (R190, R192). -/
theorem absent_or_unitField (absent v sh d : Nat) :
    (if d = 0 then absent else unitField 0 v sh d) = unitField absent v sh d := by
  rw [unitField, unitField]
  split_ifs <;> rfl

theorem unitField_lt {absent : Nat} (h : absent < 256) (v lo d : Nat) : unitField absent v lo d < 256 := by
  unfold unitField
  split_ifs
  · exact h
  · exact requant_lt (Nat.mod_lt _ (Nat.two_pow_pos d)) 8

/-! ### Fields side by side -/

/-- A field of n bits above a value of m bits: no bit overlaps, so the two are added. -/
theorem shiftLeft_or_of_lt {x y n m : Nat} (hx : x < 2 ^ n) (hy : y < 2 ^ m) :
    x <<< m ||| y = x * 2 ^ m + y ∧ x * 2 ^ m + y < 2 ^ (m + n) := by
  refine ⟨by rw [← Nat.shiftLeft_add_eq_or_of_lt hy, Nat.shiftLeft_eq], ?_⟩
  calc x * 2 ^ m + y
      < (x + 1) * 2 ^ m := by rw [Nat.succ_mul]; omega
    _ ≤ 2 ^ n * 2 ^ m := Nat.mul_le_mul_right _ hx
    _ = 2 ^ (m + n) := by rw [← pow_add, Nat.add_comm]

/-- Four fields side by side, the lowest at bit 0. -/
theorem shiftLeft_or_four_fields {x₀ x₁ x₂ x₃ n₀ n₁ n₂ n₃ : Nat} (h₀ : x₀ < 2 ^ n₀) (h₁ : x₁ < 2 ^ n₁) (h₂ : x₂ < 2 ^ n₂)
    (h₃ : x₃ < 2 ^ n₃) :
    x₃ <<< (n₀ + n₁ + n₂) ||| (x₂ <<< (n₀ + n₁) ||| (x₁ <<< n₀ ||| x₀)) =
        x₃ * 2 ^ (n₀ + n₁ + n₂) + (x₂ * 2 ^ (n₀ + n₁) + (x₁ * 2 ^ n₀ + x₀)) ∧
      x₃ * 2 ^ (n₀ + n₁ + n₂) + (x₂ * 2 ^ (n₀ + n₁) + (x₁ * 2 ^ n₀ + x₀)) < 2 ^ (n₀ + n₁ + n₂ + n₃) := by
  obtain ⟨e₁, l₁⟩ := shiftLeft_or_of_lt h₁ h₀
  obtain ⟨e₂, l₂⟩ := shiftLeft_or_of_lt h₂ l₁
  obtain ⟨e₃, l₃⟩ := shiftLeft_or_of_lt h₃ l₂
  exact ⟨by rw [e₁, e₂, e₃], l₃⟩

/-! ### The canonical colour (00_scope R16) -/

theorem toNat_append_byte {n b : Nat} (u : BitVec n) (hb : b < 256) :
    (u ++ BitVec.ofNat 8 b).toNat = u.toNat * 256 + b := by
  have hbyte : (BitVec.ofNat 8 b).toNat = b := Nat.mod_eq_of_lt hb
  rw [BitVec.toNat_append, hbyte]
  exact (shiftLeft_or_of_lt u.isLt hb).1

theorem argb_toNat {a r g b : Nat} (ha : a < 256) (hr : r < 256) (hg : g < 256) (hb : b < 256) :
    (argb a r g b).toNat = ((a * 256 + r) * 256 + g) * 256 + b := by
  have hbyte : (BitVec.ofNat 8 a).toNat = a := Nat.mod_eq_of_lt ha
  rw [argb, toNat_append_byte _ hb, toNat_append_byte _ hg, toNat_append_byte _ hr, hbyte]

theorem isColour_argb {a r g b : Nat} (ha : a < 256) (hr : r < 256) (hg : g < 256) (hb : b < 256) :
    IsColour (argb a r g b) a r g b := by
  unfold IsColour bitsOf
  rw [argb_toNat ha hr hg hb]
  omega

/-! ### Decoding (R190, R192) -/

theorem shifts_r (w : Word) :
    (shifts w).r = if bitsOf w 27 1 = 1 then 0 else depth w 3 + depth w 2 + depth w 1 := by
  simp [shifts, apply_ite Shifts.r]

theorem shifts_g (w : Word) : (shifts w).g = if bitsOf w 27 1 = 1 then depth w 0 else depth w 3 + depth w 2 := by
  simp [shifts, apply_ite Shifts.g]

theorem shifts_b (w : Word) : (shifts w).b = if bitsOf w 27 1 = 1 then depth w 0 + depth w 1 else depth w 3 := by
  simp [shifts, apply_ite Shifts.b]

theorem shifts_a (w : Word) :
    (shifts w).a = if bitsOf w 27 1 = 1 then depth w 0 + depth w 1 + depth w 2 else 0 := by
  simp [shifts, apply_ite Shifts.a]

theorem highField_eq (w : Word) (v : Nat) : highField w v = unitField 255 v (depth w 3) (depth w 0) := by
  rw [highField, unpackChannel_eq, absent_or_unitField, fmtD0_eq, fmtD3_eq]

theorem lowField_eq (w : Word) (v : Nat) : lowField w v = unitField 255 v 0 (depth w 3) := by
  rw [lowField, unpackChannel_eq, absent_or_unitField, fmtD3_eq]

theorem highField_lt (w : Word) (v : Nat) : highField w v < 256 := highField_eq w v ▸ unitField_lt (by decide) ..

theorem lowField_lt (w : Word) (v : Nat) : lowField w v < 256 := lowField_eq w v ▸ unitField_lt (by decide) ..

theorem isColour_decodeUnit_rgba (w : Word) (v : Nat) :
    IsColour (decodeUnit .rgba w v) (unitField 255 v (shifts w).a (depth w 3)) (unitField 0 v (shifts w).r (depth w 0))
      (unitField 0 v (shifts w).g (depth w 1)) (unitField 0 v (shifts w).b (depth w 2)) := by
  simp only [decodeUnit, decodeRgba, fmtD0_eq, fmtD1_eq, fmtD2_eq, fmtD3_eq, unpackChannel_eq, absent_or_unitField]
  exact isColour_argb (unitField_lt (by decide) ..) (unitField_lt (by decide) ..) (unitField_lt (by decide) ..)
    (unitField_lt (by decide) ..)

theorem isColour_decodeUnit_la (w : Word) (v : Nat) :
    IsColour (decodeUnit .la w v) (lowField w v) (highField w v) (highField w v) (highField w v) :=
  isColour_argb (lowField_lt w v) (highField_lt w v) (highField_lt w v) (highField_lt w v)

theorem isColour_decodeUnit_hl (w : Word) (v : Nat) :
    IsColour (decodeUnit .hl w v) 255 (highField w v) (lowField w v) 255 :=
  isColour_argb (by decide) (highField_lt w v) (lowField_lt w v) (by decide)

/-! ### Encoding (R191, R193) -/

/-- An 8-bit channel brought to a depth fits it. -/
theorem requant_channel_lt (c : Word) (lo d : Nat) : requant (bitsOf c lo 8) 8 d < 2 ^ d := requant_lt (bitsOf_lt c lo 8) d

theorem encodeUnit_rgba (w c : Word) :
    encodeUnit .rgba w c =
        requant (bitsOf c 16 8) 8 (depth w 0) * 2 ^ (shifts w).r + requant (bitsOf c 8 8) 8 (depth w 1) * 2 ^ (shifts w).g +
        requant (bitsOf c 0 8) 8 (depth w 2) * 2 ^ (shifts w).b + requant (bitsOf c 24 8) 8 (depth w 3) * 2 ^ (shifts w).a ∧
      encodeUnit .rgba w c < 2 ^ unitBits .rgba w := by
  have hr := requant_channel_lt c 16 (depth w 0)
  have hg := requant_channel_lt c 8 (depth w 1)
  have hb := requant_channel_lt c 0 (depth w 2)
  have ha := requant_channel_lt c 24 (depth w 3)
  simp only [encodeUnit, encodeRgba, chanR, chanG, chanB, chanA, field_eq_bitsOf, fmtD0_eq, fmtD1_eq, fmtD2_eq, fmtD3_eq,
    shifts_r, shifts_g, shifts_b, shifts_a, unitBits]
  generalize requant (bitsOf c 16 8) 8 (depth w 0) = r at *
  generalize requant (bitsOf c 8 8) 8 (depth w 1) = g at *
  generalize requant (bitsOf c 0 8) 8 (depth w 2) = b at *
  generalize requant (bitsOf c 24 8) 8 (depth w 3) = a at *
  split_ifs
  case pos =>
    obtain ⟨hor, hlt⟩ := shiftLeft_or_four_fields hr hg hb ha
    have hfromTop : ∀ x y z u : Nat, x ||| y ||| z ||| u = u ||| (z ||| (y ||| x)) := by intros; ac_rfl
    rw [hfromTop, Nat.shiftLeft_zero, hor]
    exact ⟨by ring, hlt⟩
  case neg =>
    obtain ⟨hor, hlt⟩ := shiftLeft_or_four_fields ha hb hg hr
    have hbits : depth w 3 + depth w 2 + depth w 1 + depth w 0 = depth w 0 + depth w 1 + depth w 2 + depth w 3 := by ring
    rw [Nat.or_assoc, Nat.or_assoc, Nat.shiftLeft_zero, hor]
    exact ⟨by ring, hbits ▸ hlt⟩

theorem encodeUnit_la (w c : Word) :
    encodeUnit .la w c = requant (bitsOf c 16 8) 8 (depth w 0) * 2 ^ depth w 3 + requant (bitsOf c 24 8) 8 (depth w 3) := by
  simp only [encodeUnit, chanR, chanA, field_eq_bitsOf, fmtD0_eq, fmtD3_eq]
  exact (shiftLeft_or_of_lt (requant_channel_lt ..) (requant_channel_lt ..)).1

theorem encodeUnit_hl (w c : Word) :
    encodeUnit .hl w c = requant (bitsOf c 16 8) 8 (depth w 0) * 2 ^ depth w 3 + requant (bitsOf c 8 8) 8 (depth w 3) := by
  simp only [encodeUnit, chanR, chanG, field_eq_bitsOf, fmtD0_eq, fmtD3_eq]
  exact (shiftLeft_or_of_lt (requant_channel_lt ..) (requant_channel_lt ..)).1

/-! ### The statement -/

/-- Settles O60: family and size, decoding and encoding, one after the other. -/
theorem unitsFollowTheDescriptor : Obligations.UnitsFollowTheDescriptor := by
  unfold Obligations.UnitsFollowTheDescriptor
  intro w c v
  have hla : Layout.la ≠ .rgba := by decide
  have hhl : Layout.hl ≠ .rgba := by decide
  have hrgba := isColour_decodeUnit_rgba w v
  have hencode := encodeUnit_rgba w c
  simp only [shifts_r, shifts_g, shifts_b, shifts_a] at hrgba hencode
  exact ⟨⟨layoutOf_eq_rgba_iff w, layoutOf_eq_la_iff w, layoutOf_eq_hl_iff w, fmtBe_iff w⟩,
    ⟨isNibble_rgba w, isNibble_iff hla w, isNibble_iff hhl w, unitSize_rgba w, unitSize_of_ne_rgba hla w,
      unitSize_of_ne_rgba hhl w⟩,
    hrgba, highField_eq w v ▸ lowField_eq w v ▸ isColour_decodeUnit_la w v,
    highField_eq w v ▸ lowField_eq w v ▸ isColour_decodeUnit_hl w v, hencode, encodeUnit_la w c, encodeUnit_hl w c⟩

end Sys2Proof.Machine
end

section
/-! DECPIX where it delivers no pixel (43_pixel_codec.md R194 to R196): the end of an RGBA sequence, short input, no format. -/

namespace Sys2Proof.Machine

open Sys2Proof.Claims

/-! ### What DECPIX reads, by family (R195) -/

theorem decpixBody_rgba {s : State} (hv : s.status.fmtValid = true) (hl : layoutOf s.fmt = some .rgba) :
    decpixBody s = if s.inLen.toNat ≤ s.inPos.toNat then .ok (reportEnd s) else decodeBytes .rgba s := by
  simp [decpixBody, hv, hl]

theorem decpixBody_lh {s : State} {l : Layout} (hv : s.status.fmtValid = true) (hl : layoutOf s.fmt = some l)
    (hlh : l ≠ .rgba) : decpixBody s = decodeLh l s := by
  cases l
  case rgba => exact absurd rfl hlh
  all_goals simp [decpixBody, hv, hl]

/-! ### Short input (R189, R194) -/

theorem decodeBytes_short {l : Layout} {s : State} (h : s.inLen.toNat < s.inPos.toNat + unitSize l s.fmt) :
    decodeBytes l s = .error (.raised .io) := by
  simp [decodeBytes, (inShort_iff s _).2 h]

theorem nibGet_short {s : State} (hp : s.status.nibrPend = false) (h : s.inLen.toNat < s.inPos.toNat + 1) :
    nibGet s = .error (.raised .io) := by
  simp [nibGet, hp, (inShort_iff s 1).2 h]

theorem decodeLh_short {l : Layout} {s : State} (hp : isNibble l s.fmt = true → s.status.nibrPend = false)
    (h : s.inLen.toNat < s.inPos.toNat + (if isNibble l s.fmt then 1 else unitSize l s.fmt)) :
    decodeLh l s = .error (.raised .io) := by
  cases hn : isNibble l s.fmt
  · rw [hn] at h
    simpa [decodeLh, hn] using decodeBytes_short h
  · rw [hn] at h
    simp [decodeLh, hn, nibGet_short (hp hn) h]

/-! ### A pixel delivered -/

theorem CmdError.code_ne_noError (e : CmdError) : e.code ≠ .noError := by
  cases e <;> simp [CmdError.code]

/-- A command that leaves no error recorded has committed its body's effect. -/
theorem runCommand_next_of_noError {op : BitVec 8} {body : State → Except Stop State} {s t : State}
    (h : runCommand op body s = .next t) (ht : t.status.err = .noError) : body s = .ok t := by
  obtain ⟨he, ho⟩ | ⟨-, u, hb, ho⟩ | ⟨-, e, -, ho⟩ | ⟨-, f, -, ho⟩ := runCommand_cases h
  · cases ho
    exact absurd ht he
  · cases ho
    exact hb
  · cases ho
    exact absurd (by simpa using ht) e.code_ne_noError
  · cases ho

/-- Every decode of an LA or HL pixel that completes delivers a pixel (R194). -/
theorem decodeLh_delivers {l : Layout} {s t : State} (h : decodeLh l s = .ok t) : ∃ c u, t = deliverPixel c u := by
  obtain ⟨-, v, u, -, ht⟩ | ⟨-, hb⟩ := decodeLh_ok h
  · exact ⟨_, _, ht⟩
  · exact ⟨_, _, (decodeBytes_ok hb).2⟩

/-! ### The statement -/

/-- Settles O30: one clause after the other, by what DECPIX's body answers there. -/
theorem decpixAtTheEndOfTheData : Obligations.DecpixAtTheEndOfTheData := by
  unfold Obligations.DecpixAtTheEndOfTheData
  refine ⟨fun s he hv hl hend => ?_, fun s he hv hl hsome hcut => ?_, fun s l he hv hl hlh hp hshort => ?_,
    fun s t l hl hlh h ht => ?_, fun s he hv => ⟨?_, ?_⟩⟩
  · have hbody : decpixBody s = .ok (reportEnd s) := by rw [decpixBody_rgba hv hl, if_pos hend]
    exact runCommand_ok he hbody
  · have hbody : decpixBody s = .error (.raised .io) := by
      rw [decpixBody_rgba hv hl, if_neg hsome.not_ge, decodeBytes_short hcut]
    exact runCommand_raised he hbody
  · have hbody : decpixBody s = .error (.raised .io) := by rw [decpixBody_lh hv hl hlh, decodeLh_short hp hshort]
    exact runCommand_raised he hbody
  · have hbody : decpixBody s = .ok t := runCommand_next_of_noError h ht
    obtain ⟨hv, -⟩ := decpixBody_ok hbody
    rw [decpixBody_lh hv hl hlh] at hbody
    obtain ⟨c, u, rfl⟩ := decodeLh_delivers hbody
    exact ⟨rfl, rfl⟩
  · have hbody : decpixBody s = .error (.raised .state) := by simp [decpixBody, hv]
    exact runCommand_raised he hbody
  · have hbody : encpixBody s = .error (.raised .state) := by simp [encpixBody, hv]
    exact runCommand_raised he hbody

end Sys2Proof.Machine
end

section
/-! The canonical Z-order table's statement (44_tile_engine.md R240, R242, R244): entry 2i puts bit i into x, entry 2i + 1 into y,
so each fold over the table is followed level by level. -/

namespace Sys2Proof.Machine

open Sys2Proof.Claims

/-! ### The fold over a table (R242) -/

@[simp] theorem foldOffsets_nil (j n : Nat) (acc : Nat × Nat) : foldOffsets [] j n acc = acc := rfl

@[simp] theorem foldOffsets_cons (e : Nat × Nat) (tbl : List (Nat × Nat)) (j n : Nat) (acc : Nat × Nat) :
    foldOffsets (e :: tbl) j n acc =
      foldOffsets tbl (j + 1) n (if n.testBit j then (acc.1 ^^^ e.1, acc.2 ^^^ e.2) else acc) := rfl

theorem foldOffsets_append (tbl tbl' : List (Nat × Nat)) (j n : Nat) (acc : Nat × Nat) :
    foldOffsets (tbl ++ tbl') j n acc = foldOffsets tbl' (j + tbl.length) n (foldOffsets tbl j n acc) := by
  induction tbl generalizing j acc with
  | nil => rfl
  | cons e tbl ih =>
    rw [List.cons_append, foldOffsets_cons, foldOffsets_cons, ih, List.length_cons, Nat.add_assoc, Nat.add_comm 1]

/-! ### The canonical table, level by level (R244) -/

theorem zOrder_succ (m : Nat) : zOrder (m + 1) = zOrder m ++ [(2 ^ m, 0), (0, 2 ^ m)] := by
  simp [zOrder, List.range_succ]

@[simp] theorem length_zOrder (m : Nat) : (zOrder m).length = 2 * m := by
  induction m with
  | zero => rfl
  | succ m ih => rw [zOrder_succ, List.length_append, ih]; rfl

/-! ### A fresh top bit, by OR and by XOR -/

theorem or_two_pow_of_lt {v m : Nat} (hv : v < 2 ^ m) : v ||| 2 ^ m = v + 2 ^ m := by
  simpa [Nat.or_comm, Nat.add_comm] using (Nat.two_pow_add_eq_or_of_lt hv 1).symm

theorem xor_two_pow_of_lt {v m : Nat} (hv : v < 2 ^ m) : v ^^^ 2 ^ m = v + 2 ^ m := by
  rw [← or_two_pow_of_lt hv]
  refine Nat.eq_of_testBit_eq fun i => ?_
  rw [Nat.testBit_xor, Nat.testBit_or, Nat.testBit_two_pow]
  obtain rfl | hne := eq_or_ne m i
  · simp [Nat.testBit_lt_two_pow hv]
  · simp [hne]

/-! ### The macro tile is a square of side 2^m (R240) -/

theorem foldl_or_two_pow_range (m : Nat) : (List.range m).foldl (fun a i => a ||| 2 ^ i) 0 = 2 ^ m - 1 := by
  induction m with
  | zero => rfl
  | succ m ih =>
    have hpos := Nat.two_pow_pos m
    rw [List.range_succ, List.foldl_append, ih, List.foldl_cons, List.foldl_nil, or_two_pow_of_lt (by omega)]
    omega

theorem tileW_zOrder (m : Nat) : tileW (zOrder m) = 2 ^ m := by
  have hfold : (zOrder m).foldl (fun a e => a ||| e.1) 0 = 2 ^ m - 1 := by
    simp [zOrder, List.foldl_flatMap, foldl_or_two_pow_range]
  rw [tileW, hfold, Nat.sub_add_cancel (Nat.two_pow_pos m)]

theorem tileH_zOrder (m : Nat) : tileH (zOrder m) = 2 ^ m := by
  have hfold : (zOrder m).foldl (fun a e => a ||| e.2) 0 = 2 ^ m - 1 := by
    simp [zOrder, List.foldl_flatMap, foldl_or_two_pow_range]
  rw [tileH, hfold, Nat.sub_add_cancel (Nat.two_pow_pos m)]

/-! ### The offset inside the macro tile (R244) -/

theorem gather_succ (n start m : Nat) :
    gather n start (m + 1) = gather n start m + if n.testBit (2 * m + start) then 2 ^ m else 0 :=
  Finset.sum_range_succ _ _

theorem gather_lt (n start m : Nat) : gather n start m < 2 ^ m := by
  induction m with
  | zero => exact Nat.one_pos
  | succ m ih => rw [gather_succ]; split <;> omega

/-- One more level of the table XORs in the bit that the gathered sum adds. -/
theorem gather_succ_eq_xor (n start m : Nat) :
    gather n start (m + 1) = if n.testBit (2 * m + start) then gather n start m ^^^ 2 ^ m else gather n start m := by
  rw [gather_succ, xor_two_pow_of_lt (gather_lt n start m)]
  split <;> rfl

theorem foldOffsets_zOrder (m n : Nat) : foldOffsets (zOrder m) 0 n (0, 0) = (gather n 0 m, gather n 1 m) := by
  induction m with
  | zero => rfl
  | succ m ih =>
    rw [zOrder_succ, foldOffsets_append, ih, length_zOrder, gather_succ_eq_xor, gather_succ_eq_xor]
    simp only [foldOffsets_cons, foldOffsets_nil, Nat.zero_add, Nat.add_zero]
    split_ifs <;> simp

/-! ### The statement -/

/-- Settles O35: the macro tile's dimensions, then its origin, as R242 places it, plus the gathered bits. -/
theorem canonicalTableIsZOrder : Obligations.CanonicalTableIsZOrder := by
  unfold Obligations.CanonicalTableIsZOrder
  intro m n stride _
  have harea : 2 ^ m * 2 ^ m = 4 ^ m := by rw [← Nat.mul_pow]
  refine ⟨tileW_zOrder m, tileH_zOrder m, ?_⟩
  simp only [addrWith, tilesPerRow, tileW_zOrder, tileH_zOrder, harea, foldOffsets_nil, foldOffsets_zOrder]

end Sys2Proof.Machine
end

section
/-! Padded dimensions (45_tile_3ds.md R261): `padDim` is the power of two at the ceiling logarithm, Mathlib's `Nat.clog`, which
makes "least power of two at or above d" the Galois connection of `Nat.clog 2` and `(2 ^ ·)`. -/

namespace Sys2Proof.Machine

theorem padDim_of_le_one {d : Nat} (hd : d ≤ 1) : padDim d = 1 := if_pos hd

/-- The source's formula. -/
theorem padDim_of_two_le {d : Nat} (hd : 2 ≤ d) : padDim d = 2 <<< Nat.log2 (d - 1) := if_neg (by omega)

/-- Both sides lie at or below exactly those `j` with `d ≤ 2 ^ j`. -/
theorem clog_two_eq_log2_pred_add_one {d : Nat} (hd : 2 ≤ d) : Nat.clog 2 d = Nat.log2 (d - 1) + 1 := by
  refine eq_of_forall_ge_iff fun j => ?_
  calc Nat.clog 2 d ≤ j
      ↔ d ≤ 2 ^ j := Nat.clog_le_iff_le_pow Nat.one_lt_two
    _ ↔ d - 1 < 2 ^ j := by omega
    _ ↔ Nat.log2 (d - 1) < j := (Nat.log2_lt (by omega)).symm
    _ ↔ Nat.log2 (d - 1) + 1 ≤ j := Nat.lt_iff_add_one_le

theorem padDim_eq_two_pow_clog (d : Nat) : padDim d = 2 ^ Nat.clog 2 d := by
  obtain hd | hd : d ≤ 1 ∨ 2 ≤ d := by omega
  · rw [padDim_of_le_one hd, Nat.clog_of_right_le_one hd, Nat.pow_zero]
  · rw [padDim_of_two_le hd, clog_two_eq_log2_pred_add_one hd, Nat.shiftLeft_eq, Nat.pow_succ']

/-! ### The statement -/

/-- Settles O39: the power of two at `Nat.clog 2 d`, the formula of R261's quote, and R261's values. -/
theorem padDimIsTheLeastPowerOfTwo : Obligations.PadDimIsTheLeastPowerOfTwo := by
  unfold Obligations.PadDimIsTheLeastPowerOfTwo
  refine ⟨fun d _ => ⟨Nat.clog 2 d, padDim_eq_two_pow_clog d, Nat.le_pow_clog Nat.one_lt_two d, fun j hj => ?_⟩,
    fun d hd => padDim_of_two_le hd, by decide⟩
  exact Nat.pow_le_pow_right Nat.two_pos (Nat.clog_le_of_le_pow hj)

end Sys2Proof.Machine
end

section
/-! A unit value through decoding and back (43_pixel_codec.md R197): each field survives the 8-bit channel, and the fields side by
side are the unit. -/

namespace Sys2Proof.Machine

open Sys2Proof.Claims

/-! ### One channel -/

/-- Bringing a value up and back down to its depth keeps it: the top bits of the repeated pattern are the pattern. -/
theorem requant_requant_of_le {v f t : Nat} (hv : v < 2 ^ f) (hft : f ≤ t) : requant (requant v f t) t f = v := by
  obtain rfl | hlt := hft.eq_or_lt
  · simp
  obtain rfl | hf := f.eq_zero_or_pos
  · rw [requant_of_absent_depth (by omega) (.inr rfl)]
    exact (Nat.lt_one_iff.1 hv).symm
  rw [requant_down hf hlt]
  refine Nat.eq_of_testBit_eq fun i => ?_
  rw [Nat.testBit_shiftRight, testBit_requant_up hf hlt hv]
  obtain hi | hi := lt_or_ge i f
  · have hpos : f - 1 - (t - 1 - (t - f + i)) % f = i := by
      rw [Nat.mod_eq_of_lt (by omega)]
      omega
    rw [hpos, decide_eq_true (by omega), Bool.true_and]
  · rw [decide_eq_false (by omega), Bool.false_and,
      Nat.testBit_lt_two_pow (hv.trans_le (Nat.pow_le_pow_right Nat.two_pos hi))]

/-- A field of at most 8 bits survives the channel it is decoded to, whatever an absent channel reads as. -/
theorem requant_unitField {d : Nat} (hd : d ≤ 8) (absent v lo : Nat) :
    requant (unitField absent v lo d) 8 d = v / 2 ^ lo % 2 ^ d := by
  obtain rfl | hpos := d.eq_zero_or_pos
  · rw [requant_of_absent_depth (by decide) (.inr rfl), pow_zero, Nat.mod_one]
  · rw [unitField, if_neg hpos.ne', requant_requant_of_le (Nat.mod_lt _ (Nat.two_pow_pos d)) hd]

/-! ### The fields of a unit -/

theorem fields_two (v a b : Nat) : v / 2 ^ a % 2 ^ b * 2 ^ a + v % 2 ^ a = v % 2 ^ (a + b) := by
  rw [pow_add, Nat.mod_mul]
  ring

theorem fields_four (v a b c d : Nat) :
    v / 2 ^ (a + b + c) % 2 ^ d * 2 ^ (a + b + c) + (v / 2 ^ (a + b) % 2 ^ c * 2 ^ (a + b) +
      (v / 2 ^ a % 2 ^ b * 2 ^ a + v % 2 ^ a)) = v % 2 ^ (a + b + c + d) := by
  rw [fields_two, fields_two, fields_two]

/-! ### Encoding undoes decoding (R197) -/

theorem encodeUnit_decodeUnit_rgba {w : Word} {v : Nat} (hd : ShallowDepths w) (hv : v < 2 ^ unitBits .rgba w) :
    encodeUnit .rgba w (decodeUnit .rgba w v) = v := by
  obtain ⟨h0, h1, h2, h3⟩ := hd
  obtain ⟨ha, hr, hg, hb⟩ := isColour_decodeUnit_rgba w v
  rw [(encodeUnit_rgba w _).1, ha, hr, hg, hb, requant_unitField h0, requant_unitField h1, requant_unitField h2,
    requant_unitField h3, shifts_r, shifts_g, shifts_b, shifts_a]
  unfold unitBits at hv
  split_ifs
  case pos =>
    have hsum := fields_four v (depth w 0) (depth w 1) (depth w 2) (depth w 3)
    rw [Nat.mod_eq_of_lt hv] at hsum
    simp only [pow_zero, Nat.div_one, Nat.mul_one]
    omega
  case neg =>
    have hsum := fields_four v (depth w 3) (depth w 2) (depth w 1) (depth w 0)
    have hbits : depth w 3 + depth w 2 + depth w 1 + depth w 0 = depth w 0 + depth w 1 + depth w 2 + depth w 3 := by ring
    rw [hbits, Nat.mod_eq_of_lt hv] at hsum
    simp only [pow_zero, Nat.div_one, Nat.mul_one]
    omega

/-- The two fields of an LA or HL unit. -/
theorem requant_lh_fields {w : Word} {v : Nat} (hd : ShallowDepths w) (hv : v < 2 ^ (depth w 0 + depth w 3)) :
    requant (highField w v) 8 (depth w 0) * 2 ^ depth w 3 + requant (lowField w v) 8 (depth w 3) = v := by
  obtain ⟨h0, -, -, h3⟩ := hd
  rw [highField_eq, lowField_eq, requant_unitField h0, requant_unitField h3, pow_zero, Nat.div_one, fields_two,
    Nat.add_comm, Nat.mod_eq_of_lt hv]

theorem encodeUnit_decodeUnit {l : Layout} {w : Word} {v : Nat} (hd : ShallowDepths w) (hv : v < 2 ^ unitBits l w) :
    encodeUnit l w (decodeUnit l w v) = v := by
  cases l with
  | rgba => exact encodeUnit_decodeUnit_rgba hd hv
  | la =>
    obtain ⟨ha, hr, -, -⟩ := isColour_decodeUnit_la w v
    rw [encodeUnit_la, ha, hr, requant_lh_fields hd hv]
  | hl =>
    obtain ⟨-, hr, hg, -⟩ := isColour_decodeUnit_hl w v
    rw [encodeUnit_hl, hr, hg, requant_lh_fields hd hv]

/-! ### The formats of the table (R185) -/

/-- No depth of the table is above 8. -/
theorem fmtTable_depths_le {w : Word} (hw : w ∈ fmtTable) :
    fmtD0 w ≤ 8 ∧ fmtD1 w ≤ 8 ∧ fmtD2 w ≤ 8 ∧ fmtD3 w ≤ 8 := by
  fin_cases hw <;> decide

/-- No unit of the table has unused bits. -/
theorem fmtTable_totalDepth {w : Word} (hw : w ∈ fmtTable) {l : Layout} (hl : layoutOf w = some l) :
    totalDepth l w = if isNibble l w then 4 else 8 * unitSize l w := by
  fin_cases hw <;> cases hl <;> rfl

theorem tableFormat_shallowDepths {fid : Int} {f : Layout × Word} (h : tableFormat fid = some f) : ShallowDepths f.2 := by
  obtain ⟨-, hmem, -⟩ := tableFormat_some h
  simpa [ShallowDepths] using fmtTable_depths_le hmem

theorem tableFormat_unitBits {fid : Int} {f : Layout × Word} (h : tableFormat fid = some f) :
    unitBits f.1 f.2 = if isNibble f.1 f.2 then 4 else 8 * unitSize f.1 f.2 := by
  obtain ⟨-, hmem, hl⟩ := tableFormat_some h
  rw [← totalDepth_eq, fmtTable_totalDepth hmem hl]

end Sys2Proof.Machine
end

section
/-! Different payload indices have different BMP words (45_tile_3ds.md R260 to R264, 46_container.md R282): the 3DS table is the
canonical Z-order table of three levels, which maps no two indices to one address. -/

namespace Sys2Proof.Machine

open Sys2Proof.Claims

/-! ### Z-order is one-to-one (44_tile_engine R244) -/

/-- A multiple of a side and an offset below the side can be told apart in their sum. -/
theorem mul_add_inj_of_lt {a a' g g' side : Nat} (hg : g < side) (hg' : g' < side) (h : a * side + g = a' * side + g') :
    a = a' ∧ g = g' := by
  have hpos : 0 < side := by omega
  have hdiv := congrArg (· / side) h
  have hmod := congrArg (· % side) h
  simp only [Nat.mul_comm _ side, Nat.mul_add_div hpos, Nat.mul_add_mod, Nat.div_eq_of_lt hg, Nat.div_eq_of_lt hg',
    Nat.mod_eq_of_lt hg, Nat.mod_eq_of_lt hg', Nat.add_zero] at hdiv hmod
  exact ⟨hdiv, hmod⟩

/-- One more level puts its bit above the offset gathered so far. -/
theorem gather_succ_eq_mul_add (n start m : Nat) :
    gather n start (m + 1) = (n.testBit (2 * m + start)).toNat * 2 ^ m + gather n start m := by
  rw [gather_succ, Nat.add_comm]
  cases n.testBit (2 * m + start) <;> simp

theorem gather_succ_inj {n n' start m : Nat} (h : gather n start (m + 1) = gather n' start (m + 1)) :
    n.testBit (2 * m + start) = n'.testBit (2 * m + start) ∧ gather n start m = gather n' start m := by
  rw [gather_succ_eq_mul_add, gather_succ_eq_mul_add] at h
  obtain ⟨hbit, hrest⟩ := mul_add_inj_of_lt (gather_lt n start m) (gather_lt n' start m) h
  have htoNat : ∀ b b' : Bool, b.toNat = b'.toNat → b = b' := by decide
  exact ⟨htoNat _ _ hbit, hrest⟩

/-- The two gathered offsets hold every bit of the index below 2m. -/
theorem testBit_eq_of_gather_eq {n n' m : Nat} (hx : gather n 0 m = gather n' 0 m) (hy : gather n 1 m = gather n' 1 m)
    {i : Nat} (hi : i < 2 * m) : n.testBit i = n'.testBit i := by
  induction m with
  | zero => omega
  | succ m ih =>
    obtain ⟨hx0, hx⟩ := gather_succ_inj hx
    obtain ⟨hy1, hy⟩ := gather_succ_inj hy
    obtain hlow | rfl | rfl : i < 2 * m ∨ i = 2 * m + 0 ∨ i = 2 * m + 1 := by omega
    · exact ih hx hy hlow
    · exact hx0
    · exact hy1

theorem mod_four_pow_eq_of_gather_eq {n n' m : Nat} (hx : gather n 0 m = gather n' 0 m)
    (hy : gather n 1 m = gather n' 1 m) : n % 4 ^ m = n' % 4 ^ m := by
  have hpow : (4 : Nat) ^ m = 2 ^ (2 * m) := by rw [Nat.pow_mul]
  rw [hpow]
  refine Nat.eq_of_testBit_eq fun i => ?_
  rw [Nat.testBit_mod_two_pow, Nat.testBit_mod_two_pow]
  by_cases hi : i < 2 * m
  · rw [testBit_eq_of_gather_eq hx hy hi]
  · rw [decide_eq_false hi, Bool.false_and, Bool.false_and]

/-- The canonical table's address function is one-to-one, whatever the stride. -/
theorem addrWith_zOrder_injective (m stride : Nat) : Function.Injective (addrWith (zOrder m) [] (0, 0) stride) := by
  intro n n' h
  have harea : 2 ^ m * 2 ^ m = 4 ^ m := by rw [← Nat.mul_pow]
  simp only [addrWith, tilesPerRow, tileW_zOrder, tileH_zOrder, harea, foldOffsets_nil, foldOffsets_zOrder,
    Prod.mk.injEq] at h
  obtain ⟨hx, hy⟩ := h
  obtain ⟨hmx, hgx⟩ := mul_add_inj_of_lt (gather_lt n 0 m) (gather_lt n' 0 m) hx
  obtain ⟨hmy, hgy⟩ := mul_add_inj_of_lt (gather_lt n 1 m) (gather_lt n' 1 m) hy
  have htile : n / 4 ^ m = n' / 4 ^ m := by rw [← Nat.div_add_mod (n / 4 ^ m), hmx, hmy, Nat.div_add_mod]
  rw [← Nat.div_add_mod n (4 ^ m), htile, mod_four_pow_eq_of_gather_eq hgx hgy, Nat.div_add_mod]

/-! ### The 3DS address and the BMP word -/

/-- R260's table is the canonical one. -/
theorem tbl3ds_eq_zOrder : tbl3ds = zOrder 3 := rfl

theorem orient_injective (o : Orient) (he : Nat) : Function.Injective fun p => orient o p he := by
  rintro ⟨x, y⟩ ⟨x', y'⟩ h
  cases o <;> simp only [orient, Prod.mk.injEq] at h ⊢ <;> omega

theorem addr3ds_injective (o : Orient) (we he : Nat) : Function.Injective fun n => addr3ds n o we he := by
  intro n n' h
  refine addrWith_zOrder_injective 3 (stride3ds o we he) ?_
  rw [← tbl3ds_eq_zOrder]
  exact orient_injective o he h

theorem pixelWord_eq_some_iff (j : Job) (i k : Nat) :
    pixelWord j i = some k ↔
      ∃ x y, PixelAt j.orient j.effW j.effH j.width j.height i x y ∧ k = y * j.width + x := by
  unfold pixelWord PixelAt
  generalize addr3ds i j.orient j.effW j.effH = p
  obtain ⟨px, py⟩ := p
  dsimp only
  constructor
  · intro h
    split at h
    · rename_i hin
      obtain ⟨hx0, hx, hy0, hy⟩ := hin
      refine ⟨px.toNat, py.toNat, ⟨?_, by omega, by omega⟩, (Option.some.inj h).symm⟩
      rw [Int.toNat_of_nonneg hx0, Int.toNat_of_nonneg hy0]
    · cases h
  · rintro ⟨x, y, ⟨hp, hx, hy⟩, rfl⟩
    obtain ⟨rfl, rfl⟩ := Prod.mk.inj hp
    rw [if_pos (by omega), Int.toNat_natCast, Int.toNat_natCast]

/-- No two pixels of a job share a BMP word. -/
theorem pixelWord_inj {j : Job} {i i' k : Nat} (h : pixelWord j i = some k) (h' : pixelWord j i' = some k) : i = i' := by
  obtain ⟨x, y, ⟨ha, hx, -⟩, rfl⟩ := (pixelWord_eq_some_iff j i k).1 h
  obtain ⟨x', y', ⟨ha', hx', -⟩, hk⟩ := (pixelWord_eq_some_iff j i' _).1 h'
  obtain ⟨rfl, rfl⟩ := mul_add_inj_of_lt hx hx' hk
  exact addr3ds_injective j.orient j.effW j.effH (ha.trans ha'.symm)

end Sys2Proof.Machine
end

section
/-! LOAD's loop, pixel by pixel (46_container.md R282 to R284): the payload's units, the words of BMP, and where the loop leaves
each of them. -/

namespace Sys2Proof.Machine

open Sys2Proof.Claims

/-! ### Payload units (R283) -/

/-- `LE` as a weighted sum (00_scope R13). -/
theorem leValue_map_range (f : Nat → Byte) (n : Nat) :
    leValue ((List.range n).map f) = ∑ i ∈ Finset.range n, (f i).toNat * 2 ^ (8 * i) := by
  induction n generalizing f with
  | zero => rfl
  | succ n ih =>
    have hweight : ∀ i, 256 * ((f (i + 1)).toNat * 2 ^ (8 * i)) = (f (i + 1)).toNat * 2 ^ (8 * (i + 1)) := by
      intro i
      rw [Nat.mul_succ, pow_add]
      ring
    rw [List.range_succ_eq_map, List.map_cons, List.map_map, leValue, ih, Finset.sum_range_succ', Finset.mul_sum]
    simp [hweight, Nat.add_comm]

theorem streamValue_eq_leValue (s : State) (a n : Nat) : streamValue s false a n = leValue (readBytes s .inp a n) := by
  rw [readBytes, leValue_map_range]
  rfl

theorem payloadUnit_of_nibble {s : State} {l : Layout} {w : Word} (hn : isNibble l w = true) (i : Nat) :
    payloadUnit s l w i = (readByte s .inp (32 + i / 2)).toNat / 16 ^ (i % 2) % 16 := if_pos hn

theorem payloadUnit_of_bytes {s : State} {l : Layout} {w : Word} (hn : isNibble l w = false) (i : Nat) :
    payloadUnit s l w i = leValue (readBytes s .inp (32 + i * unitSize l w) (unitSize l w)) := by
  rw [payloadUnit, hn, if_neg Bool.false_ne_true, streamValue_eq_leValue]

theorem payloadUnit_lt (s : State) (l : Layout) (w : Word) (i : Nat) :
    payloadUnit s l w i < 2 ^ (if isNibble l w then 4 else 8 * unitSize l w) := by
  cases hn : isNibble l w
  · rw [payloadUnit_of_bytes hn, if_neg Bool.false_ne_true]
    exact (leValue_lt _).trans_eq (by rw [readBytes_length])
  · rw [payloadUnit_of_nibble hn]
    exact Nat.mod_lt _ (by decide)

/-- The unit that `pixelAt` answers is the payload's. -/
theorem pixelAt_some {s : State} {j : Job} {e i u : Nat} (h : pixelAt s j e i = .ok (some u)) :
    u = payloadUnit s j.layout j.fmt i := by
  unfold pixelAt at h
  cases hn : isNibble j.layout j.fmt
  · simp only [hn, Bool.false_eq_true, if_false] at h
    rw [payloadUnit_of_bytes hn]
    split_ifs at h <;> cases h
    rfl
  · simp only [hn, if_true] at h
    rw [payloadUnit_of_nibble hn]
    split_ifs at h with hend hlow <;> cases h
    · simp [hlow]
    · have hbyte := (readByte s .inp (32 + i / 2)).isLt
      have hhigh : i % 2 = 1 := by omega
      simp only [hhigh, BitVec.extractLsb'_toNat, Nat.shiftRight_eq_div_pow]
      omega

/-! ### Words of BMP (20_memory R71) -/

/-- Word k of a memory's byte view. -/
def Memory.wordAt (m : Memory) (epoch k : Nat) : Word :=
  BitVec.ofNat 32 (leValue ((List.range 4).map fun i => Memory.byteAt m epoch .bmp (4 * k + i)))

theorem readBmp_eq_wordAt (s : State) (k : Nat) : readBmp s k = Memory.wordAt s.bmp s.powerOns k := rfl

theorem wordAt_writeWord_same (m : Memory) (epoch k : Nat) (w : Word) :
    Memory.wordAt (Memory.writeWord m k w) epoch k = w := by
  have hbytes : ((List.range 4).map fun i => Memory.byteAt (Memory.writeWord m k w) epoch .bmp (4 * k + i)) =
      leBytes w.toNat 4 := by
    refine List.ext_getElem (by simp) fun i hi _ => ?_
    have hi4 : i < 4 := by simpa using hi
    simp [Memory.writeWord, byteAt_writeBytes, hi4]
  rw [Memory.wordAt, hbytes, leValue_leBytes w.isLt, BitVec.ofNat_toNat, BitVec.setWidth_eq]

theorem wordAt_writeWord_other (m : Memory) (epoch : Nat) {k k' : Nat} (w : Word) (hne : k ≠ k') :
    Memory.wordAt (Memory.writeWord m k' w) epoch k = Memory.wordAt m epoch k := by
  have hbyte : ∀ i ∈ List.range 4, Memory.byteAt (Memory.writeWord m k' w) epoch .bmp (4 * k + i) =
      Memory.byteAt m epoch .bmp (4 * k + i) := by
    intro i hi
    have hi4 := List.mem_range.1 hi
    exact byteAt_writeBytes_outside m epoch .bmp (by rw [leBytes_length]; omega)
  rw [Memory.wordAt, Memory.wordAt, List.map_congr_left hbyte]

/-! ### LOAD's loop (R284) -/

/-- A round that does not end the loop: a unit, its word, and the rounds that follow on the memory written there. -/
theorem loadPixels_succ_ok {s : State} {j : Job} {e todo i : Nat} {m m' : Memory} {count : Nat}
    (h : loadPixels s j e (todo + 1) i m = .ok (m', count)) :
    (m' = m ∧ count = i) ∨
      ∃ k, pixelWord j i = some k ∧
        loadPixels s j e todo (i + 1)
          (Memory.writeWord m k (decodeUnit j.layout j.fmt (payloadUnit s j.layout j.fmt i))) = .ok (m', count) := by
  unfold loadPixels at h
  split at h
  · cases h
  · cases h
    exact .inl ⟨rfl, rfl⟩
  · rename_i u hu
    split at h
    · cases h
    · rename_i k hk
      rw [pixelAt_some hu] at h
      exact .inr ⟨k, hk, h⟩

/-- A word that belongs to no pixel from i on keeps what it held. -/
theorem loadPixels_keeps {s : State} {j : Job} {e todo i : Nat} {m m' : Memory} {count : Nat} (epoch : Nat) {k : Nat}
    (h : loadPixels s j e todo i m = .ok (m', count)) (hk : ∀ q, i ≤ q → pixelWord j q ≠ some k) :
    Memory.wordAt m' epoch k = Memory.wordAt m epoch k := by
  induction todo generalizing i m with
  | zero => cases h; rfl
  | succ todo ih =>
    obtain ⟨rfl, -⟩ | ⟨k', hk', hrest⟩ := loadPixels_succ_ok h
    · rfl
    · have hne : k ≠ k' := fun he => hk i le_rfl (he ▸ hk')
      rw [ih hrest fun q hq => hk q (by omega), wordAt_writeWord_other m epoch _ hne]

/-- Every pixel the loop counts has a word, and it holds the pixel's colour at the end: no later pixel has the same word. -/
theorem loadPixels_places {s : State} {j : Job} {e todo i : Nat} {m m' : Memory} {count : Nat} (epoch : Nat)
    (h : loadPixels s j e todo i m = .ok (m', count)) {q : Nat} (hiq : i ≤ q) (hq : q < count) :
    ∃ k, pixelWord j q = some k ∧
      Memory.wordAt m' epoch k = decodeUnit j.layout j.fmt (payloadUnit s j.layout j.fmt q) := by
  induction todo generalizing i m with
  | zero => cases h; omega
  | succ todo ih =>
    obtain ⟨-, rfl⟩ | ⟨k, hk, hrest⟩ := loadPixels_succ_ok h
    · omega
    obtain rfl | hlt := hiq.eq_or_lt
    · refine ⟨k, hk, ?_⟩
      rw [loadPixels_keeps epoch hrest fun q hq hk' => by have := pixelWord_inj hk hk'; omega,
        wordAt_writeWord_same]
    · exact ih hrest hlt

end Sys2Proof.Machine
end

section
/-! SAVE after LOAD (46_container.md R285, R286): SAVE meets the units LOAD read, in their order, and their bytes are the
payload's. -/

namespace Sys2Proof.Machine

open Sys2Proof.Claims

/-! ### SAVE's walk (R285) -/

theorem savePixels_eq_ok {s : State} {j : Job} {unit : Nat → Nat} {todo i : Nat}
    (h : ∀ q, i ≤ q → q < i + todo → ∃ k, pixelWord j q = some k ∧ encodeUnit j.layout j.fmt (readBmp s k) = unit q) :
    savePixels s j todo i = .ok ((List.range' i todo).map unit) := by
  induction todo generalizing i with
  | zero => rfl
  | succ todo ih =>
    obtain ⟨k, hk, hu⟩ := h i le_rfl (by omega)
    have hrest := ih (i := i + 1) fun q hq hlt => h q (by omega) (by omega)
    simp only [savePixels, hk, hrest, hu, List.range'_succ, List.map_cons]

/-- SAVE of a bitmap that holds LOAD's pixels meets LOAD's units. -/
theorem savePixels_after_loadPixels {s t : State} {j : Job} {e : Nat} {m : Memory} {fid : Int}
    (hf : tableFormat fid = some (j.layout, j.fmt)) (hload : loadPixels s j e j.pixels 0 m = .ok (t.bmp, j.pixels)) :
    savePixels t j j.pixels 0 = .ok ((List.range' 0 j.pixels).map (payloadUnit s j.layout j.fmt)) := by
  refine savePixels_eq_ok fun q hq hlt => ?_
  obtain ⟨k, hk, hword⟩ := loadPixels_places t.powerOns hload hq (by omega)
  have hunit : payloadUnit s j.layout j.fmt q < 2 ^ unitBits j.layout j.fmt :=
    tableFormat_unitBits hf ▸ payloadUnit_lt s j.layout j.fmt q
  exact ⟨k, hk, by rw [readBmp_eq_wordAt, hword, encodeUnit_decodeUnit (tableFormat_shallowDepths hf) hunit]⟩

/-- SAVE commits when every check of R285 passes. -/
theorem saveBody_eq_ok {o : Orient} {pad : Bool} {s : State} {f : Layout × Word} {us : List Nat}
    (hv : s.status.hdrValid = true) (hw : (s.bmpW.toNat : Int) = (headerOf s.hdr).width)
    (hh : (s.bmpH.toNat : Int) = (headerOf s.hdr).height) (hf : tableFormat (headerOf s.hdr).formatId = some f)
    (hfit : (jobOf (headerOf s.hdr) f o pad).pixels ≤ s.params.bmpWords)
    (hsave : savePixels s (jobOf (headerOf s.hdr) f o pad) (jobOf (headerOf s.hdr) f o pad).pixels 0 = .ok us)
    (hroom : (headerBytes s.hdr ++ payloadOf (jobOf (headerOf s.hdr) f o pad) us).length ≤ s.params.outSize) :
    saveBody o pad s = .ok (commitSave s (headerBytes s.hdr ++ payloadOf (jobOf (headerOf s.hdr) f o pad) us)
      (isNibble f.1 f.2 && decide ((jobOf (headerOf s.hdr) f o pad).pixels % 2 = 1))) := by
  unfold saveBody
  dsimp only
  rw [if_pos hv, if_neg (not_not.2 hw), if_neg (not_not.2 hh), hf]
  dsimp only
  rw [if_neg hfit.not_gt, hsave]
  dsimp only
  rw [if_neg hroom.not_gt]
  rfl

/-! ### Bytes of IN, put together again (R280, R283) -/

theorem readBytes_succ (s : State) (b : Buffer) (a n : Nat) :
    readBytes s b a (n + 1) = readByte s b a :: readBytes s b (a + 1) n := by
  simp [readBytes, List.range_succ_eq_map, Function.comp_def, Nat.add_assoc, Nat.add_comm 1]

theorem readBytes_append (s : State) (b : Buffer) (a n n' : Nat) :
    readBytes s b a n ++ readBytes s b (a + n) n' = readBytes s b a (n + n') := by
  simp [readBytes, List.range_add, Nat.add_assoc]

/-- Pieces of n bytes, one after the other. -/
theorem flatMap_readBytes (s : State) (b : Buffer) (a n todo i : Nat) :
    ((List.range' i todo).flatMap fun k => readBytes s b (a + k * n) n) = readBytes s b (a + i * n) (todo * n) := by
  induction todo generalizing i with
  | zero => simp [readBytes]
  | succ todo ih =>
    have hnext : a + (i + 1) * n = a + i * n + n := by ring
    have hlen : (todo + 1) * n = n + todo * n := by ring
    rw [List.range'_succ, List.flatMap_cons, ih, hnext, readBytes_append, hlen]

theorem leBytes_leValue_readBytes (s : State) (b : Buffer) (a n : Nat) :
    leBytes (leValue (readBytes s b a n)) n = readBytes s b a n := by
  simpa using leBytes_leValue (readBytes s b a n)

/-- The latched header written back is the header read. -/
theorem headerBytes_inHeader (s : State) : headerBytes (inHeader s) = readBytes s .inp 0 32 := by
  have hwords : (inHeader s).toList =
      (List.range' 0 8).map fun k => BitVec.ofNat 32 (leValue (readBytes s .inp (4 * k) 4)) := rfl
  have hword : ∀ k, leBytes (BitVec.ofNat 32 (leValue (readBytes s .inp (4 * k) 4))).toNat 4 =
      readBytes s .inp (0 + k * 4) 4 := by
    intro k
    have hlt : leValue (readBytes s .inp (4 * k) 4) < 2 ^ 32 := by simpa using leValue_lt (readBytes s .inp (4 * k) 4)
    rw [BitVec.toNat_ofNat, Nat.mod_eq_of_lt hlt, leBytes_leValue_readBytes, Nat.zero_add, Nat.mul_comm]
  rw [headerBytes, hwords, List.flatMap_map]
  simp only [hword]
  exact flatMap_readBytes s .inp 0 4 8 0

/-- A byte is its two nibbles, the low one first. -/
theorem packed_nibbles (b : Byte) : BitVec.ofNat 8 (b.toNat / 16 ^ 0 % 16 + 16 * (b.toNat / 16 ^ 1 % 16)) = b := by
  have hb := b.isLt
  refine BitVec.eq_of_toNat_eq ?_
  rw [BitVec.toNat_ofNat]
  omega

theorem packNibbles_payloadUnits {l : Layout} {w : Word} (hn : isNibble l w = true) (s : State) :
    ∀ p todo, packNibbles ((List.range' (2 * p) todo).map (payloadUnit s l w)) = readBytes s .inp (32 + p) (todo / 2)
  | _, 0 => rfl
  | _, 1 => rfl
  | p, todo + 2 => by
    have hrest := packNibbles_payloadUnits hn s (p + 1) todo
    have hlow : 2 * p / 2 = p ∧ 2 * p % 2 = 0 := by omega
    have hhigh : (2 * p + 1) / 2 = p ∧ (2 * p + 1) % 2 = 1 := by omega
    have hlen : (todo + 2) / 2 = todo / 2 + 1 := by omega
    simp only [List.range'_succ, List.map_cons, packNibbles, payloadUnit_of_nibble hn, hlow, hhigh, packed_nibbles]
    rw [hlen, readBytes_succ]
    exact congrArg _ hrest

/-- `length(P)` of R286: the payload bytes SAVE writes for n pixels. -/
def savedLength (l : Layout) (w : Word) (n : Nat) : Nat := if isNibble l w then n / 2 else n * unitSize l w

/-- The units of a payload, written as SAVE does, are the payload's first bytes. -/
theorem payloadOf_payloadUnits (s : State) (j : Job) (n : Nat) :
    payloadOf j ((List.range' 0 n).map (payloadUnit s j.layout j.fmt)) =
      readBytes s .inp 32 (savedLength j.layout j.fmt n) := by
  unfold payloadOf savedLength
  cases hn : isNibble j.layout j.fmt
  · simp only [Bool.false_eq_true, if_false, List.flatMap_map, payloadUnit_of_bytes hn, leBytes_leValue_readBytes]
    rw [flatMap_readBytes, Nat.zero_mul]
  · exact packNibbles_payloadUnits hn s 0 n

/-- What SAVE writes at the start of OUT is read there. -/
theorem readByte_commitSave {s : State} {container : List Byte} {dropped : Bool} {a : Nat} (ha : a < container.length) :
    readByte (commitSave s container dropped) .out a = container[a] := by
  have hin : 0 ≤ a ∧ a < 0 + container.length := by omega
  simp only [readByte, State.bufMem, commitSave_outBuf, byteAt_writeBytes, dif_pos hin, Nat.sub_zero]

/-- The container SAVE builds from LOAD's header and units is IN's beginning. -/
theorem container_of_payloadUnits (s : State) (j : Job) (n : Nat) :
    headerBytes (inHeader s) ++ payloadOf j ((List.range' 0 n).map (payloadUnit s j.layout j.fmt)) =
      readBytes s .inp 0 (32 + savedLength j.layout j.fmt n) := by
  rw [headerBytes_inHeader, payloadOf_payloadUnits, ← readBytes_append]

/-! ### A complete LOAD, and SAVE after it -/

theorem toNat_ofNat_toInt {v : BitVec 16} (hpos : 0 < v.toInt) :
    ((BitVec.ofNat 16 v.toInt.toNat).toNat : Int) = v.toInt := by
  have hlt : v.toInt < 2 ^ 15 := v.toInt_lt
  rw [BitVec.toNat_ofNat, Nat.mod_eq_of_lt (by omega), Int.toNat_of_nonneg hpos.le]

/-- BMP_W and BMP_H hold a header's positive dimensions (R281, 10_state R50). -/
theorem jobOf_dimensions_fit {hdr : Vector Word 8} (hw : 0 < (headerOf hdr).width) (hh : 0 < (headerOf hdr).height)
    (f : Layout × Word) (o : Orient) (pad : Bool) :
    ((BitVec.ofNat 16 (jobOf (headerOf hdr) f o pad).width).toNat : Int) = (headerOf hdr).width ∧
      ((BitVec.ofNat 16 (jobOf (headerOf hdr) f o pad).height).toNat : Int) = (headerOf hdr).height :=
  ⟨toNat_ofNat_toInt hw, toNat_ofNat_toInt hh⟩

theorem jobOf_pixels {h : Header} {f : Layout × Word} {o : Orient} {pad : Bool} {wd ht : Nat} (hw : (wd : Int) = h.width)
    (hh : (ht : Int) = h.height) : (jobOf h f o pad).pixels = wd * ht := by
  simp only [Job.pixels, jobOf, ← hw, ← hh, Int.toNat_natCast]

/-- What a LOAD of s's container with SHORT = 0 leaves in t for SAVE: the header, its dimensions, and a bitmap that LOAD's loop
filled to the last pixel. -/
structure HoldsContainer (o : Orient) (pad : Bool) (f : Layout × Word) (s t : State) : Prop where
  hdr : t.hdr = inHeader s
  hdrValid : t.status.hdrValid = true
  params : t.params = s.params
  format : tableFormat (headerOf t.hdr).formatId = some f
  width : (t.bmpW.toNat : Int) = (headerOf t.hdr).width
  height : (t.bmpH.toNat : Int) = (headerOf t.hdr).height
  fits : (jobOf (headerOf t.hdr) f o pad).pixels ≤ t.params.bmpWords
  filled : ∃ e m, loadPixels s (jobOf (headerOf t.hdr) f o pad) e (jobOf (headerOf t.hdr) f o pad).pixels 0 m =
    .ok (t.bmp, (jobOf (headerOf t.hdr) f o pad).pixels)

theorem loadBody_holdsContainer {o : Orient} {pad : Bool} {s t : State} {f : Layout × Word} (h : loadBody o pad s = .ok t)
    (hshort : t.status.short = false) (hf : tableFormat (headerOf t.hdr).formatId = some f) :
    HoldsContainer o pad f s t := by
  obtain ⟨f', m, count, -, -, hf', ⟨hwd, hht⟩, hfit, hload, rfl⟩ := loadBody_ok h
  obtain rfl : f = f' := by
    rw [commitLoad_hdr, hf', Option.some_inj] at hf
    exact hf.symm
  obtain ⟨-, hle, -, -⟩ := loadPixels_ok hload
  have hall : count = (jobOf (headerOf (inHeader s)) f o pad).pixels := by
    have hge : ¬ count < (jobOf (headerOf (inHeader s)) f o pad).pixels := of_decide_eq_false hshort
    omega
  rw [hall] at hload
  obtain ⟨hw, hh⟩ := jobOf_dimensions_fit hwd hht f o pad
  exact
    { hdr := commitLoad_hdr ..
      hdrValid := by rw [commitLoad_status]
      params := commitLoad_params ..
      format := hf
      width := by rw [commitLoad_hdr, commitLoad_bmpW, hw]
      height := by rw [commitLoad_hdr, commitLoad_bmpH, hh]
      fits := by rwa [commitLoad_hdr, commitLoad_params]
      filled := ⟨_, _, by rw [commitLoad_hdr, commitLoad_bmp, hload]⟩ }

/-- Any later state with the same header, bitmap, dimensions and parameters holds it too. -/
theorem HoldsContainer.later {o : Orient} {pad : Bool} {f : Layout × Word} {s t t' : State} (h : HoldsContainer o pad f s t)
    (hv : t'.status.hdrValid = t.status.hdrValid) (hhdr : t'.hdr = t.hdr) (hbmp : t'.bmp = t.bmp) (hw : t'.bmpW = t.bmpW)
    (hh : t'.bmpH = t.bmpH) (hparams : t'.params = t.params) : HoldsContainer o pad f s t' := by
  obtain ⟨hdr, hdrValid, params, format, width, height, fits, filled⟩ := h
  constructor <;> simpa only [hv, hhdr, hbmp, hw, hh, hparams]

/-- SAVE in a state that holds s's container, with room for it, writes the beginning of s's IN. -/
theorem saveBody_of_holdsContainer {o : Orient} {pad : Bool} {s t : State} {l : Layout} {w : Word} {n : Nat}
    (h : HoldsContainer o pad (l, w) s t) (hn : t.bmpW.toNat * t.bmpH.toNat = n)
    (hroom : 32 + savedLength l w n ≤ t.params.outSize) :
    ∃ dropped, saveBody o pad t = .ok (commitSave t (readBytes s .inp 0 (32 + savedLength l w n)) dropped) := by
  obtain ⟨hhdr, hv, -, hf, hw, hh, hfit, e, m, hload⟩ := h
  have hpixels : (jobOf (headerOf t.hdr) (l, w) o pad).pixels = n := (jobOf_pixels hw hh).trans hn
  have hcontainer : headerBytes t.hdr ++ payloadOf (jobOf (headerOf t.hdr) (l, w) o pad)
      ((List.range' 0 n).map (payloadUnit s l w)) = readBytes s .inp 0 (32 + savedLength l w n) := by
    rw [hhdr]
    exact container_of_payloadUnits s (jobOf (headerOf (inHeader s)) (l, w) o pad) n
  have hunits : savePixels t (jobOf (headerOf t.hdr) (l, w) o pad) (jobOf (headerOf t.hdr) (l, w) o pad).pixels 0 =
      .ok ((List.range' 0 n).map (payloadUnit s l w)) := hpixels ▸ savePixels_after_loadPixels hf hload
  have hsave := saveBody_eq_ok hv hw hh hf hfit hunits
  rw [hcontainer, readBytes_length] at hsave
  exact ⟨_, hsave hroom⟩

/-! ### The statement -/

/-- Settles O47: SAVE's checks pass on what LOAD latched, its walk meets LOAD's units, and the bytes it writes are IN's. -/
theorem loadThenSaveReproducesTheContainer : Obligations.LoadThenSaveReproducesTheContainer := by
  unfold Obligations.LoadThenSaveReproducesTheContainer
  intro s t t' o pad l w hinv _ hexec ht hshort hf ht' hv hhdr hbmp hbmpW hbmpH hparams _ pixels len hroom
  have hloaded : HoldsContainer o pad (l, w) s t :=
    loadBody_holdsContainer (runCommand_next_of_noError hexec ht) hshort hf
  have hlater : HoldsContainer o pad (l, w) s t' := hloaded.later hv hhdr hbmp hbmpW hbmpH hparams
  have hlen : len = savedLength l w pixels := rfl
  have hpixels : t'.bmpW.toNat * t'.bmpH.toNat = pixels := by rw [hbmpW, hbmpH]
  obtain ⟨dropped, hsave⟩ := saveBody_of_holdsContainer hlater hpixels (hparams ▸ hroom)
  obtain ⟨-, ⟨-, houtSize⟩, -⟩ := hinv.params
  rw [hloaded.params] at hroom
  rw [hlen] at hroom ⊢
  refine ⟨_, runCommand_ok ht' hsave, ht', ?_, fun a ha => ?_⟩
  · rw [commitSave_outLen, readBytes_length, BitVec.toNat_ofNat, Nat.mod_eq_of_lt (by omega)]
  · rw [readByte_commitSave (by rwa [readBytes_length])]
    simp [readBytes]

end Sys2Proof.Machine
end

section
/-! Words written to CMD while an error is recorded (60_exceptions.md R324): all but the words of CLRERR and SRESET are
dropped, whether they decode or not. -/

namespace Sys2Proof

/-! ### Which words are CLRERR and SRESET (30_encoding R104) -/

/-- A row without fields is selected by its own word alone. -/
theorem selects_exact_iff (w rowMatch : Word) : selects w rowMatch 0xFFFFFFFF#32 = true ↔ w = rowMatch := by
  have hmask : w &&& 0xFFFFFFFF#32 = w := BitVec.and_allOnes
  rw [selects, hmask, beq_iff_eq]

/-- The decoder's answer is dropped while an error is recorded: no command, or one that is neither CLRERR nor SRESET (R324). -/
def Droppable (r : Except DecodeError Instr) : Prop := ∀ i, r = .ok i → i ≠ .clrerr ∧ i ≠ .sreset

theorem Droppable.ite {c : Prop} [Decidable c] {r r' : Except DecodeError Instr} (h : Droppable r) (h' : Droppable r') :
    Droppable (if c then r else r') := by
  split <;> assumption

/-- No word but 1 is CLRERR, and no word but 2 is SRESET: reserved bits admit no second spelling (R105, R324). -/
theorem droppable_decode {w : Word} (hclrerr : w ≠ 0x00000001#32) (hsreset : w ≠ 0x00000002#32) : Droppable (decode w) := by
  unfold decode withWidth
  rw [if_neg (mt (selects_exact_iff w _).1 hclrerr), if_neg (mt (selects_exact_iff w _).1 hsreset)]
  repeat' apply Droppable.ite
  all_goals simp [Droppable]

end Sys2Proof

namespace Sys2Proof.Machine

open Sys2Proof.Claims

/-! ### What is dropped while an error is recorded (30_encoding R106, 60_exceptions R324) -/

/-- Every command but CLRERR and SRESET runs by `runCommand`. -/
theorem exec_eq_runCommand {i : Instr} (hclrerr : i ≠ .clrerr) (hsreset : i ≠ .sreset) :
    ∃ body, ∀ s, exec i s = runCommand i.opcode body s := by
  cases i
  case clrerr => exact absurd rfl hclrerr
  case sreset => exact absurd rfl hsreset
  case strrst inp out => exact ⟨strrstBody inp out, fun _ => rfl⟩
  all_goals exact ⟨_, fun _ => rfl⟩

theorem exec_dropped {i : Instr} {s : State} (he : s.status.err ≠ .noError) (hclrerr : i ≠ .clrerr)
    (hsreset : i ≠ .sreset) : exec i s = .next (dropCommand s) := by
  obtain ⟨body, hbody⟩ := exec_eq_runCommand hclrerr hsreset
  rw [hbody, runCommand_dropped he]

theorem illegalCommand_dropped {s : State} (op : BitVec 8) (he : s.status.err ≠ .noError) :
    illegalCommand op s = dropCommand s := if_neg he

theorem issue_of_decode_ok {w : Word} {i : Instr} (h : decode w = .ok i) (s : State) : issue w s = exec i s := by
  simp [issue, h]

theorem issue_of_decode_error {w : Word} {e : DecodeError} (h : decode w = .error e) (s : State) :
    issue w s = .next (illegalCommand (opcodeField w) s) := by
  simp [issue, h]

theorem issue_dropped {w : Word} {s : State} (he : s.status.err ≠ .noError) (hclrerr : w ≠ 0x00000001#32)
    (hsreset : w ≠ 0x00000002#32) : issue w s = .next (dropCommand s) := by
  cases hdecode : decode w with
  | ok i =>
    obtain ⟨hi, hi'⟩ := droppable_decode hclrerr hsreset i hdecode
    rw [issue_of_decode_ok hdecode, exec_dropped he hi hi']
  | error e => rw [issue_of_decode_error hdecode, illegalCommand_dropped _ he]

/-! ### The step that serves a CMD write -/

/-- The step that serves a write of CMD issues its word. -/
theorem step_of_issues {s : State} {w : Word} {rest : List HostOp} (h : Issues s w rest) :
    step s = issue w { s with pending := rest } :=
  (step_serve h).trans (serve_cmdWrite w { s with pending := rest })

/-- Settles O7: a word that decodes is dropped by its command's run, any other by `illegalCommand`. -/
theorem stickyErrorDropsEveryOtherWord : Obligations.StickyErrorDropsEveryOtherWord := by
  unfold Obligations.StickyErrorDropsEveryOtherWord
  intro s w rest hissues he hclrerr hsreset
  have hdropped : issue w { s with pending := rest } = .next (dropCommand { s with pending := rest }) :=
    issue_dropped he hclrerr hsreset
  rw [step_of_issues hissues, hdropped]
  rfl

end Sys2Proof.Machine
end

section
/-! The encoding's statements (30_encoding.md R100 to R105): a row of the opcode map fixes the opcode byte and the bits above its
fields, so a word that selects a row is the byte with the fields above it, and nothing else. -/

namespace Sys2Proof

open Sys2Proof.Machine Sys2Proof.Claims

/-! ### The rows of the opcode map (R101, R104) -/

/-- The mask of a row whose format has `n` field bits, all of them from bit 8 up. -/
def fieldsMask (n : Nat) : Word := BitVec.allOnes 32 <<< (8 + n) ||| 0xFF#32

theorem getLsbD_fieldsMask (n : Nat) {i : Nat} (hi : i < 32) :
    (fieldsMask n).getLsbD i = (decide (i < 8) || decide (8 + n ≤ i)) := by
  have hbyte : (0xFF#32).getLsbD i = decide (i < 8) := by
    rw [← BitVec.testBit_toNat]
    exact Nat.testBit_two_pow_sub_one 8 i
  rw [fieldsMask, BitVec.getLsbD_or, BitVec.getLsbD_shiftLeft, hbyte, BitVec.getLsbD_allOnes]
  by_cases h : i < 8 + n
  · simp [hi, h]
  · simp [hi, h, show i - (8 + n) < 32 by omega, show 8 + n ≤ i by omega]

theorem toNat_lt_two_pow_iff (w : Word) (n : Nat) : w.toNat < 2 ^ n ↔ ∀ i, n ≤ i → w.getLsbD i = false := by
  refine ⟨fun h i hi => ?_, fun h => Nat.lt_pow_two_of_testBit _ fun i hi => by rw [BitVec.testBit_toNat, h i hi]⟩
  rw [← BitVec.testBit_toNat]
  exact Nat.testBit_lt_two_pow (h.trans_le (Nat.pow_le_pow_right Nat.two_pos hi))

theorem getLsbD_opcodeField (w : Word) (i : Nat) : (opcodeField w).getLsbD i = (decide (i < 8) && w.getLsbD i) := by
  rw [opcodeField, BitVec.getLsbD_extractLsb', Nat.zero_add]

/-- A row is selected by its opcode byte and by zeros above its fields. -/
theorem and_fieldsMask_eq_iff (w : Word) (op : BitVec 8) (n : Nat) :
    w &&& fieldsMask n = op.setWidth 32 ↔ opcodeField w = op ∧ w.toNat < 2 ^ (8 + n) := by
  rw [toNat_lt_two_pow_iff]
  constructor
  · intro h
    have hbit : ∀ i, i < 32 → (w.getLsbD i && (decide (i < 8) || decide (8 + n ≤ i))) = op.getLsbD i := by
      intro i hi
      have hi' := congrArg (fun v => BitVec.getLsbD v i) h
      rwa [BitVec.getLsbD_and, getLsbD_fieldsMask n hi, BitVec.getLsbD_setWidth, decide_eq_true hi, Bool.true_and] at hi'
    refine ⟨BitVec.eq_of_getLsbD_eq fun i hi => ?_, fun i hi => ?_⟩
    · rw [getLsbD_opcodeField, ← hbit i (by omega)]
      simp [hi]
    · by_cases hi32 : i < 32
      · simpa [hi, BitVec.getLsbD_of_ge op i (by omega)] using hbit i hi32
      · exact BitVec.getLsbD_of_ge w i (by omega)
  · rintro ⟨rfl, hzero⟩
    refine BitVec.eq_of_getLsbD_eq fun i hi => ?_
    rw [BitVec.getLsbD_and, getLsbD_fieldsMask n hi, BitVec.getLsbD_setWidth, getLsbD_opcodeField]
    by_cases hlow : i < 8
    · simp [hlow, hi]
    · by_cases hhigh : 8 + n ≤ i
      · simp [hlow, hzero i hhigh]
      · simp [hlow, hhigh]

/-- The rows' masks, by the number of their formats' field bits: N, R, Q, S and I, O. -/
theorem fieldsMask_values :
    fieldsMask 0 = 0xFFFFFFFF#32 ∧ fieldsMask 2 = 0xFFFFFCFF#32 ∧ fieldsMask 12 = 0xFFF000FF#32 ∧
      fieldsMask 4 = 0xFFFFF0FF#32 ∧ fieldsMask 3 = 0xFFFFF8FF#32 := by decide

theorem selects_fieldsMask_iff (w : Word) (op : BitVec 8) (n : Nat) :
    selects w (op.setWidth 32) (fieldsMask n) = true ↔ opcodeField w = op ∧ w.toNat < 2 ^ (8 + n) := by
  rw [selects, beq_iff_eq, and_fieldsMask_eq_iff]

/-- The decoder by the opcode byte and the bits above the fields. -/
theorem decode_eq (w : Word) :
    decode w =
      if opcodeField w = 0x01#8 ∧ w.toNat < 2 ^ 8 then .ok .clrerr
      else if opcodeField w = 0x02#8 ∧ w.toNat < 2 ^ 8 then .ok .sreset
      else if opcodeField w = 0x03#8 ∧ w.toNat < 2 ^ 10 then .ok (.strrst (w.getLsbD 8) (w.getLsbD 9))
      else if opcodeField w = 0x10#8 ∧ w.toNat < 2 ^ 20 then .ok (.requant (w.extractLsb' 8 6) (w.extractLsb' 14 6))
      else if opcodeField w = 0x20#8 ∧ w.toNat < 2 ^ 12 then withWidth w .rdu
      else if opcodeField w = 0x21#8 ∧ w.toNat < 2 ^ 12 then withWidth w .wru
      else if opcodeField w = 0x22#8 ∧ w.toNat < 2 ^ 8 then .ok .wrnib
      else if opcodeField w = 0x30#8 ∧ w.toNat < 2 ^ 8 then .ok .setfmt
      else if opcodeField w = 0x31#8 ∧ w.toNat < 2 ^ 12 then .ok (.setfmtid (w.extractLsb' 8 4))
      else if opcodeField w = 0x32#8 ∧ w.toNat < 2 ^ 8 then .ok .decpix
      else if opcodeField w = 0x33#8 ∧ w.toNat < 2 ^ 8 then .ok .encpix
      else if opcodeField w = 0x40#8 ∧ w.toNat < 2 ^ 8 then .ok .taddr
      else if opcodeField w = 0x41#8 ∧ w.toNat < 2 ^ 11 then .ok (.set3ds (.ofCode (w.extractLsb' 8 2)) (w.getLsbD 10))
      else if opcodeField w = 0x42#8 ∧ w.toNat < 2 ^ 8 then .ok .t3ds
      else if opcodeField w = 0x50#8 ∧ w.toNat < 2 ^ 11 then .ok (.load (.ofCode (w.extractLsb' 8 2)) (w.getLsbD 10))
      else if opcodeField w = 0x51#8 ∧ w.toNat < 2 ^ 11 then .ok (.save (.ofCode (w.extractLsb' 8 2)) (w.getLsbD 10))
      else if assignedOpcodes.contains (opcodeField w) then .error .reservedBits
      else .error .unassignedOpcode := by
  obtain ⟨h0, h2, h12, h4, h3⟩ := fieldsMask_values
  simp only [← selects_fieldsMask_iff w _ 0, ← selects_fieldsMask_iff w _ 2, ← selects_fieldsMask_iff w _ 12,
    ← selects_fieldsMask_iff w _ 4, ← selects_fieldsMask_iff w _ 3, h0, h2, h12, h4, h3]
  rfl

/-! ### Fields and their words (R101) -/

theorem toNat_append_eq_add {m n : Nat} (x : BitVec m) (y : BitVec n) : (x ++ y).toNat = x.toNat * 2 ^ n + y.toNat := by
  rw [BitVec.toNat_append]
  exact (shiftLeft_or_of_lt x.isLt y.isLt).1

theorem getLsbD_eq_decide (w : Word) (i : Nat) : w.getLsbD i = decide (w.toNat / 2 ^ i % 2 = 1) := by
  rw [← BitVec.testBit_toNat, Nat.testBit_eq_decide_div_mod_eq]

theorem toNat_opcodeField (w : Word) : (opcodeField w).toNat = w.toNat % 256 := by
  simp [opcodeField]

theorem code_ofCode (c : BitVec 2) : (Orient.ofCode c).code = c := by revert c; decide

theorem toNat_ofBool_getLsbD (w : Word) (i : Nat) : (BitVec.ofBool (w.getLsbD i)).toNat = w.toNat / 2 ^ i % 2 := by
  rw [getLsbD_eq_decide, BitVec.toNat_ofBool]
  obtain h | h := Nat.mod_two_eq_zero_or_one (w.toNat / 2 ^ i) <;> simp [h]

/-- A word is its upper three bytes above its opcode byte. -/
theorem append_opcode_eq {w : Word} {op : BitVec 8} {x : BitVec 24} (hop : opcodeField w = op)
    (hx : x.toNat = w.toNat / 256) : x ++ op = w := by
  subst hop
  refine BitVec.eq_of_toNat_eq ?_
  rw [toNat_append_eq_add, hx, toNat_opcodeField]
  omega

theorem encode_strrst_fields {w : Word} (hop : opcodeField w = 0x03#8) (hw : w.toNat < 2 ^ 10) :
    encode (.strrst (w.getLsbD 8) (w.getLsbD 9)) = w := by
  refine append_opcode_eq hop ?_
  simp only [toNat_append_eq_add, toNat_ofBool_getLsbD, BitVec.toNat_ofNat]
  omega

theorem encode_requant_fields {w : Word} (hop : opcodeField w = 0x10#8) (hw : w.toNat < 2 ^ 20) :
    encode (.requant (w.extractLsb' 8 6) (w.extractLsb' 14 6)) = w := by
  refine append_opcode_eq hop ?_
  simp only [toNat_append_eq_add, BitVec.extractLsb'_toNat, Nat.shiftRight_eq_div_pow, BitVec.toNat_ofNat]
  omega

theorem encode_setfmtid_fields {w : Word} (hop : opcodeField w = 0x31#8) (hw : w.toNat < 2 ^ 12) :
    encode (.setfmtid (w.extractLsb' 8 4)) = w := by
  refine append_opcode_eq hop ?_
  simp only [toNat_append_eq_add, BitVec.extractLsb'_toNat, Nat.shiftRight_eq_div_pow, BitVec.toNat_ofNat]
  omega

theorem encodeSized_fields {w : Word} {op : BitVec 8} (hop : opcodeField w = op) (hw : w.toNat < 2 ^ 12) :
    encodeSized (w.extractLsb' 8 3) (w.getLsbD 11) op = w := by
  refine append_opcode_eq hop ?_
  simp only [toNat_append_eq_add, toNat_ofBool_getLsbD, BitVec.extractLsb'_toNat, Nat.shiftRight_eq_div_pow,
    BitVec.toNat_ofNat]
  omega

theorem encodeOriented_fields {w : Word} {op : BitVec 8} (hop : opcodeField w = op) (hw : w.toNat < 2 ^ 11) :
    encodeOriented (.ofCode (w.extractLsb' 8 2)) (w.getLsbD 10) op = w := by
  refine append_opcode_eq hop ?_
  simp only [toNat_append_eq_add, toNat_ofBool_getLsbD, code_ofCode, BitVec.extractLsb'_toNat, Nat.shiftRight_eq_div_pow,
    BitVec.toNat_ofNat]
  omega

/-- A word of format N is its opcode byte. -/
theorem eq_of_opcodeField {w w' : Word} (hop : opcodeField w = opcodeField w') (hw : w.toNat < 2 ^ 8) (hw' : w'.toNat < 2 ^ 8) :
    w = w' := by
  have hbyte := congrArg BitVec.toNat hop
  rw [toNat_opcodeField, toNat_opcodeField] at hbyte
  refine BitVec.eq_of_toNat_eq ?_
  omega

/-- The number of field bits of a command's format (R101). -/
def Instr.fieldBits : Instr → Nat
  | .strrst _ _ => 2
  | .requant _ _ => 12
  | .rdu _ _ | .wru _ _ | .setfmtid _ => 4
  | .set3ds _ _ | .load _ _ | .save _ _ => 3
  | _ => 0

theorem opcodeField_encode (i : Instr) : opcodeField (encode i) = i.opcode := by
  cases i
  case strrst inp out => exact Laws.OpcodeByte.strrst inp out
  case requant src dst => exact Laws.OpcodeByte.requant src dst
  case rdu wc be => exact Laws.OpcodeByte.rdu wc be
  case wru wc be => exact Laws.OpcodeByte.wru wc be
  case setfmtid id => exact Laws.OpcodeByte.setfmtid id
  case set3ds o pad => exact Laws.OpcodeByte.set3ds o pad
  case load o pad => exact Laws.OpcodeByte.load o pad
  case save o pad => exact Laws.OpcodeByte.save o pad
  all_goals rfl

theorem encode_lt (i : Instr) : (encode i).toNat < 2 ^ (8 + i.fieldBits) := by
  cases i
  case requant src dst =>
    have hsrc := src.isLt
    have hdst := dst.isLt
    simp only [encode, toNat_append_eq_add, BitVec.toNat_ofNat, Instr.fieldBits]
    omega
  case strrst inp out => revert inp out; decide
  case rdu wc be => revert wc be; decide
  case wru wc be => revert wc be; decide
  case setfmtid id => revert id; decide
  case set3ds o pad => cases o <;> revert pad <;> decide
  case load o pad => cases o <;> revert pad <;> decide
  case save o pad => cases o <;> revert pad <;> decide
  all_goals decide

/-! ### A command's own word decodes to it (R100, R105) -/

theorem decode_encode_requant (src dst : BitVec 6) : decode (encode (.requant src dst)) = .ok (.requant src dst) := by
  have hop : opcodeField (encode (.requant src dst)) = 0x10#8 := opcodeField_encode _
  have hlt : (encode (.requant src dst)).toNat < 1048576 := encode_lt _
  have hsrc : (encode (.requant src dst)).extractLsb' 8 6 = src := by
    refine BitVec.eq_of_toNat_eq ?_
    simp only [encode, toNat_append_eq_add, BitVec.extractLsb'_toNat, Nat.shiftRight_eq_div_pow, BitVec.toNat_ofNat]
    omega
  have hdst : (encode (.requant src dst)).extractLsb' 14 6 = dst := by
    refine BitVec.eq_of_toNat_eq ?_
    simp only [encode, toNat_append_eq_add, BitVec.extractLsb'_toNat, Nat.shiftRight_eq_div_pow, BitVec.toNat_ofNat]
    omega
  rw [decode_eq, hsrc, hdst]
  simp [hop, hlt]

/-- Settles O1: format Q by its fields' positions, the other formats, of at most four field bits, by evaluation. -/
theorem decodeOfEncodedCommand : Obligations.DecodeOfEncodedCommand := by
  unfold Obligations.DecodeOfEncodedCommand
  intro i hwf
  cases i
  case requant src dst => exact decode_encode_requant src dst
  case strrst inp out => cases inp <;> cases out <;> rfl
  case rdu wc be => revert wc be; decide
  case wru wc be => revert wc be; decide
  case setfmtid id => revert id; decide
  case set3ds o pad => cases o <;> cases pad <;> rfl
  case load o pad => cases o <;> cases pad <;> rfl
  case save o pad => cases o <;> cases pad <;> rfl
  all_goals rfl

/-! ### A word that decodes is its command's word (R105) -/

/-- The decoder's answer for w is an error, or a well-formed command whose word is w. -/
def DecodesSoundly (w : Word) (r : Except DecodeError Instr) : Prop := ∀ i, r = .ok i → i.wf = true ∧ encode i = w

theorem DecodesSoundly.ite {w : Word} {c : Prop} [Decidable c] {r r' : Except DecodeError Instr}
    (h : c → DecodesSoundly w r) (h' : DecodesSoundly w r') : DecodesSoundly w (if c then r else r') := by
  split
  · exact h ‹c›
  · exact h'

theorem DecodesSoundly.ok {w : Word} {i : Instr} (hwf : i.wf = true) (h : encode i = w) : DecodesSoundly w (.ok i) := by
  rintro _ ⟨⟩
  exact ⟨hwf, h⟩

theorem DecodesSoundly.error (w : Word) (e : DecodeError) : DecodesSoundly w (.error e) := nofun

theorem DecodesSoundly.withWidth {w : Word} {f : BitVec 3 → Bool → Instr}
    (hwf : ∀ wc be, (f wc be).wf = widthCodeOk wc) (h : encode (f (w.extractLsb' 8 3) (w.getLsbD 11)) = w) :
    DecodesSoundly w (withWidth w f) :=
  .ite (fun hwc => .ok ((hwf _ _).trans hwc) h) (.error w _)

theorem decodesSoundly_decode (w : Word) : DecodesSoundly w (decode w) := by
  have hN : ∀ i : Instr, i.wf = true → i.fieldBits = 0 → opcodeField w = i.opcode ∧ w.toNat < 2 ^ 8 →
      DecodesSoundly w (.ok i) := by
    rintro i hwf hbits ⟨hop, hlt⟩
    have hi := encode_lt i
    rw [hbits] at hi
    exact .ok hwf (eq_of_opcodeField ((opcodeField_encode i).trans hop.symm) hi hlt)
  rw [decode_eq]
  exact .ite (hN .clrerr rfl rfl) <| .ite (hN .sreset rfl rfl) <|
    .ite (fun ⟨hop, hlt⟩ => .ok rfl (encode_strrst_fields hop hlt)) <|
    .ite (fun ⟨hop, hlt⟩ => .ok rfl (encode_requant_fields hop hlt)) <|
    .ite (fun ⟨hop, hlt⟩ => .withWidth (fun _ _ => rfl) (encodeSized_fields hop hlt)) <|
    .ite (fun ⟨hop, hlt⟩ => .withWidth (fun _ _ => rfl) (encodeSized_fields hop hlt)) <|
    .ite (hN .wrnib rfl rfl) <| .ite (hN .setfmt rfl rfl) <|
    .ite (fun ⟨hop, hlt⟩ => .ok rfl (encode_setfmtid_fields hop hlt)) <|
    .ite (hN .decpix rfl rfl) <| .ite (hN .encpix rfl rfl) <| .ite (hN .taddr rfl rfl) <|
    .ite (fun ⟨hop, hlt⟩ => .ok rfl (encodeOriented_fields hop hlt)) <|
    .ite (hN .t3ds rfl rfl) <|
    .ite (fun ⟨hop, hlt⟩ => .ok rfl (encodeOriented_fields hop hlt)) <|
    .ite (fun ⟨hop, hlt⟩ => .ok rfl (encodeOriented_fields hop hlt)) <|
    .ite (fun _ => .error w _) (.error w _)

/-- Settles O2: row by row of the decoder, the fields it takes put together again. -/
theorem encodeOfDecodedWord : Obligations.EncodeOfDecodedWord := by
  unfold Obligations.EncodeOfDecodedWord
  exact decodesSoundly_decode

/-! ### The opcode map (R104) -/

/-- The row of an opcode whose format has `n` field bits. -/
def formatRow (op : BitVec 8) (n : Nat) (sized : Bool) : OpcodeRow := ⟨op.setWidth 32, fieldsMask n, sized⟩

theorem opcodeMap_eq :
    opcodeMap =
      [formatRow 0x01 0 false, formatRow 0x02 0 false, formatRow 0x03 2 false, formatRow 0x10 12 false,
       formatRow 0x20 4 true, formatRow 0x21 4 true, formatRow 0x22 0 false, formatRow 0x30 0 false,
       formatRow 0x31 4 false, formatRow 0x32 0 false, formatRow 0x33 0 false, formatRow 0x40 0 false,
       formatRow 0x41 3 false, formatRow 0x42 0 false, formatRow 0x50 3 false, formatRow 0x51 3 false] := by decide

theorem exists_formatRow_of_mem {r : OpcodeRow} (hr : r ∈ opcodeMap) : ∃ op n sized, r = formatRow op n sized := by
  rw [opcodeMap_eq] at hr
  fin_cases hr <;> exact ⟨_, _, _, rfl⟩

/-- Does a command's format hold a width code? -/
def Instr.sized : Instr → Bool
  | .rdu _ _ | .wru _ _ => true
  | _ => false

theorem formatRow_mem_opcodeMap (i : Instr) : formatRow i.opcode i.fieldBits i.sized ∈ opcodeMap := by
  rw [opcodeMap_eq]
  cases i <;> simp [Instr.opcode, Instr.fieldBits, Instr.sized]

/-- The width code of a word of format S (R101). -/
theorem encodeSized_widthCode (wc : BitVec 3) (be : Bool) (op : BitVec 8) :
    (encodeSized wc be op).toNat / 256 % 8 = wc.toNat := by
  simp only [encodeSized, toNat_append_eq_add]
  omega

theorem accepted_encode {i : Instr} (hwf : i.wf = true) : Accepted (encode i) := by
  refine ⟨_, formatRow_mem_opcodeMap i, (and_fieldsMask_eq_iff _ _ _).2 ⟨opcodeField_encode i, encode_lt i⟩, ?_⟩
  intro hsized
  cases i
  case rdu wc be => exact (encodeSized_widthCode wc be _).trans_lt (of_decide_eq_true hwf)
  case wru wc be => exact (encodeSized_widthCode wc be _).trans_lt (of_decide_eq_true hwf)
  all_goals cases hsized

theorem exists_withWidth_ok {w : Word} (hwidth : w.toNat / 256 % 8 < 5) (f : BitVec 3 → Bool → Instr) :
    ∃ i, withWidth w f = .ok i := by
  have hwc : widthCodeOk (w.extractLsb' 8 3) = true := by
    rw [widthCodeOk, BitVec.extractLsb'_toNat, Nat.shiftRight_eq_div_pow]
    exact decide_eq_true hwidth
  exact ⟨_, if_pos hwc⟩

/-- The decoder knows every row. -/
theorem exists_decode_of_accepted {w : Word} (h : Accepted w) : ∃ i, decode w = .ok i := by
  obtain ⟨r, hr, hsel, hwidth⟩ := h
  rw [opcodeMap_eq] at hr
  fin_cases hr
  all_goals
    obtain ⟨hop, hlt⟩ := (and_fieldsMask_eq_iff w _ _).1 hsel
    simp only [decode_eq, hop, hlt, and_true]
    simp
  · exact exists_withWidth_ok (hwidth rfl) .rdu
  · exact exists_withWidth_ok (hwidth rfl) .wru

/-- Settles O3: a command's word selects the command's row, and every row the decoder's word selects has its opcode. -/
theorem decoderAcceptsTheOpcodeMap : Obligations.DecoderAcceptsTheOpcodeMap := by
  unfold Obligations.DecoderAcceptsTheOpcodeMap
  refine ⟨fun w => ⟨?_, exists_decode_of_accepted⟩, fun w i r hi hr hsel => ?_⟩
  · rintro ⟨i, hi⟩
    obtain ⟨hwf, rfl⟩ := decodesSoundly_decode w i hi
    exact accepted_encode hwf
  · obtain ⟨op, n, sized, rfl⟩ := exists_formatRow_of_mem hr
    obtain ⟨hop, -⟩ := (and_fieldsMask_eq_iff w op n).1 hsel
    obtain ⟨-, rfl⟩ := decodesSoundly_decode w i hi
    rw [← opcodeField_encode i, hop]
    rfl

/-- Settles O4: each word is evaluated. -/
theorem specWordsDecode : Obligations.SpecWordsDecode := by
  unfold Obligations.SpecWordsDecode
  decide

/-! ### Issuing a word (R105, R106) -/

/-- Settles O5: the step issues the word, and a word that decodes is run. -/
theorem stepRunsTheDecodedCommand : Obligations.StepRunsTheDecodedCommand := by
  unfold Obligations.StepRunsTheDecodedCommand
  intro s w i rest hissues hdecode
  rw [step_of_issues hissues, issue_of_decode_ok hdecode]

theorem exists_decode_error_of_not_accepted {w : Word} (h : ¬ Accepted w) : ∃ e, decode w = .error e := by
  cases hdecode : decode w with
  | ok i => exact absurd ((decoderAcceptsTheOpcodeMap.1 w).1 ⟨i, hdecode⟩) h
  | error e => exact ⟨e, rfl⟩

/-- Settles O6: the step issues the word, which decodes to no command. -/
theorem illegalWordRaisesIllegal : Obligations.IllegalWordRaisesIllegal := by
  unfold Obligations.IllegalWordRaisesIllegal
  intro s w rest hissues he hw
  obtain ⟨e, hdecode⟩ := exists_decode_error_of_not_accepted hw
  rw [step_of_issues hissues, issue_of_decode_error hdecode]
  exact congrArg _ (if_pos he)

end Sys2Proof
end

section
/-! Every command at once: the staged effect a command runs, and the errors that can end it (60_exceptions.md R320 to R323). -/

namespace Sys2Proof.Machine

open Sys2Proof.Claims

/-! ### The staged effect of a command (30_encoding R106) -/

/-- The staged effect of each command, as its `exec...` hands it to `runCommand`; for CLRERR and SRESET, which run while an error
is recorded, their whole effect. -/
def bodyOf : Instr → State → Except Stop State
  | .clrerr => fun s => .ok (clearErrors s)
  | .sreset => fun s => .ok (resetRegisters s)
  | .strrst inp out => strrstBody inp out
  | .requant src dst => requantBody src dst
  | .rdu wc be => rduBody wc be
  | .wru wc be => wruBody wc be
  | .wrnib => wrnibBody
  | .setfmt => setfmtBody
  | .setfmtid id => setfmtidBody id
  | .decpix => decpixBody
  | .encpix => encpixBody
  | .taddr => taddrBody
  | .set3ds o pad => set3dsBody o pad
  | .t3ds => t3dsBody
  | .load o pad => loadBody o pad
  | .save o pad => saveBody o pad

theorem exec_eq_runCommand_bodyOf {i : Instr} (hclrerr : i ≠ .clrerr) (hsreset : i ≠ .sreset) (s : State) :
    exec i s = runCommand i.opcode (bodyOf i) s := by
  cases i
  case clrerr => exact absurd rfl hclrerr
  case sreset => exact absurd rfl hsreset
  all_goals rfl

/-- All that a command that completes can be: CLRERR, SRESET, dropped, committed, or ended by an error. -/
theorem exec_next_cases {i : Instr} {s t : State} (h : exec i s = .next t) :
    (i = .clrerr ∧ t = clearErrors s) ∨ (i = .sreset ∧ t = resetRegisters s) ∨
      (i ≠ .clrerr ∧ i ≠ .sreset ∧
        ((s.status.err ≠ .noError ∧ t = dropCommand s) ∨
          (s.status.err = .noError ∧ bodyOf i s = .ok t) ∨
          (s.status.err = .noError ∧ ∃ e, bodyOf i s = .error (.raised e) ∧ t = errorEntry i.opcode e s))) := by
  by_cases hclrerr : i = .clrerr
  · subst hclrerr
    cases h
    exact .inl ⟨rfl, rfl⟩
  by_cases hsreset : i = .sreset
  · subst hsreset
    cases h
    exact .inr (.inl ⟨rfl, rfl⟩)
  refine .inr (.inr ⟨hclrerr, hsreset, ?_⟩)
  rw [exec_eq_runCommand_bodyOf hclrerr hsreset] at h
  obtain ⟨he, ho⟩ | ⟨he, u, hbody, ho⟩ | ⟨he, e, hbody, ho⟩ | ⟨-, f, -, ho⟩ := runCommand_cases h
  · exact .inl ⟨he, Host.Outcome.next.inj ho⟩
  · cases ho
    exact .inr (.inl ⟨he, hbody⟩)
  · cases ho
    exact .inr (.inr ⟨he, e, hbody, rfl⟩)
  · cases ho

/-! ### What ends a staged effect (R321, R322) -/

/-- The states where the spec gives DECPIX and ENCPIX, or SAVE, no effect (log 9). -/
def Unspecified (s : State) : Prop :=
  (s.status.fmtValid = true ∧ layoutOf s.fmt = none) ∨
    (s.status.hdrValid = true ∧ tableFormat (headerOf s.hdr).formatId = none)

/-- A stop that may end a command with these errors: one of them, or a fault in an unspecified state. -/
def StopsWith (errors : List ErrCode) (s : State) : Stop → Prop
  | .raised e => e.code ∈ errors
  | .stuck _ => Unspecified s

theorem stopsWith_raised {errors : List ErrCode} {s : State} {e : CmdError} (h : e.code ∈ errors) :
    StopsWith errors s (.raised e) := h

theorem requantBody_error {src dst : BitVec 6} {s : State} {stop : Stop} (h : requantBody src dst s = .error stop) :
    StopsWith [.config, .range] s stop := by
  unfold requantBody at h
  split at h
  · cases h
    exact stopsWith_raised (by decide)
  · split at h <;> cases h
    exact stopsWith_raised (by decide)

theorem rduBody_error {wc : BitVec 3} {be : Bool} {s : State} {stop : Stop} (h : rduBody wc be s = .error stop) :
    StopsWith [.illegal, .io] s stop := by
  unfold rduBody at h
  split at h
  · cases h
    exact stopsWith_raised (by decide)
  · split at h <;> cases h
    exact stopsWith_raised (by decide)

theorem wruBody_error {wc : BitVec 3} {be : Bool} {s : State} {stop : Stop} (h : wruBody wc be s = .error stop) :
    StopsWith [.illegal, .capacity] s stop := by
  unfold wruBody at h
  split at h
  · cases h
    exact stopsWith_raised (by decide)
  · split at h <;> cases h
    exact stopsWith_raised (by decide)

theorem nibPut_error {nib : BitVec 4} {s : State} {stop : Stop} (h : nibPut nib s = .error stop) :
    stop = .raised .capacity := by
  unfold nibPut at h
  split at h
  · split at h <;> cases h
    rfl
  · cases h

theorem wrnibBody_error {s : State} {stop : Stop} (h : wrnibBody s = .error stop) :
    StopsWith [.range, .capacity] s stop := by
  unfold wrnibBody at h
  split at h
  · cases h
    exact stopsWith_raised (by decide)
  · obtain rfl := nibPut_error h
    exact stopsWith_raised (by decide)

theorem checkFmt_error {w : Word} {e : CmdError} (h : checkFmt w = some e) : e = .config ∨ e = .unsupported := by
  obtain ⟨-, hnone⟩ | ⟨-, hsome⟩ := checkFmt_cases w
  · cases hnone.symm.trans h
  · obtain rfl := Option.some.inj (hsome.symm.trans h)
    unfold descriptorError
    split
    · exact .inr rfl
    · exact .inl rfl

theorem setfmtBody_error {s : State} {stop : Stop} (h : setfmtBody s = .error stop) :
    StopsWith [.config, .unsupported] s stop := by
  unfold setfmtBody at h
  split at h <;> cases h
  next hcheck =>
    obtain rfl | rfl := checkFmt_error hcheck
    all_goals exact stopsWith_raised (by decide)

theorem setfmtidBody_error {id : BitVec 4} {s : State} {stop : Stop} (h : setfmtidBody id s = .error stop) :
    StopsWith [.unsupported, .config] s stop := by
  unfold setfmtidBody at h
  split at h
  · cases h
    exact stopsWith_raised (by decide)
  · split at h <;> cases h
    exact stopsWith_raised (by decide)

theorem decodeBytes_error {l : Layout} {s : State} {stop : Stop} (h : decodeBytes l s = .error stop) :
    stop = .raised .io := by
  unfold decodeBytes at h
  dsimp only at h
  split at h <;> cases h
  rfl

theorem nibGet_error {s : State} {stop : Stop} (h : nibGet s = .error stop) : stop = .raised .io := by
  unfold nibGet at h
  split at h
  · cases h
  · split at h <;> cases h
    rfl

theorem decodeLh_error {l : Layout} {s : State} {stop : Stop} (h : decodeLh l s = .error stop) :
    stop = .raised .io := by
  unfold decodeLh at h
  split at h
  · split at h <;> cases h
    next hget => exact nibGet_error hget
  · exact decodeBytes_error h

theorem decpixBody_error {s : State} {stop : Stop} (h : decpixBody s = .error stop) :
    StopsWith [.state, .io] s stop := by
  unfold decpixBody at h
  split at h
  next hv =>
    split at h
    next hl =>
      cases h
      exact .inl ⟨hv, hl⟩
    next =>
      split at h
      · cases h
      · obtain rfl := decodeBytes_error h
        exact stopsWith_raised (by decide)
    all_goals
      obtain rfl := decodeLh_error h
      exact stopsWith_raised (by decide)
  next =>
    cases h
    exact stopsWith_raised (by decide)

theorem encodeColour_error {l : Layout} {s : State} {stop : Stop} (h : encodeColour l s = .error stop) :
    stop = .raised .capacity := by
  unfold encodeColour at h
  dsimp only at h
  split at h
  · exact nibPut_error h
  · split at h <;> cases h
    rfl

theorem encpixBody_error {s : State} {stop : Stop} (h : encpixBody s = .error stop) :
    StopsWith [.state, .capacity] s stop := by
  unfold encpixBody at h
  split at h
  next hv =>
    split at h
    next hl =>
      cases h
      exact .inl ⟨hv, hl⟩
    next =>
      obtain rfl := encodeColour_error h
      exact stopsWith_raised (by decide)
  next =>
    cases h
    exact stopsWith_raised (by decide)

theorem taddrBody_error {s : State} {stop : Stop} (h : taddrBody s = .error stop) : StopsWith [.config] s stop := by
  unfold taddrBody at h
  split at h <;> cases h
  exact stopsWith_raised (by decide)

theorem set3dsBody_error {o : Orient} {pad : Bool} {s : State} {stop : Stop} (h : set3dsBody o pad s = .error stop) :
    StopsWith [.config] s stop := by
  unfold set3dsBody at h
  dsimp only at h
  split at h <;> cases h
  exact stopsWith_raised (by decide)

theorem t3dsBody_error {s : State} {stop : Stop} (h : t3dsBody s = .error stop) :
    StopsWith [.state, .config] s stop := by
  unfold t3dsBody at h
  split at h
  · split at h <;> cases h
    exact stopsWith_raised (by decide)
  · cases h
    exact stopsWith_raised (by decide)

theorem pixelAt_error {s : State} {j : Job} {endOff i : Nat} {e : CmdError} (h : pixelAt s j endOff i = .error e) :
    e = .io := by
  unfold pixelAt at h
  dsimp only at h
  split at h
  · split at h <;> cases h
    rfl
  · split at h
    · cases h
    · split at h <;> cases h
      rfl

theorem loadPixels_error {s : State} {j : Job} {endOff todo i : Nat} {m : Memory} {e : CmdError}
    (h : loadPixels s j endOff todo i m = .error e) : e = .io ∨ ∃ k, e = .bounds k := by
  induction todo generalizing i m with
  | zero => cases h
  | succ todo ih =>
    unfold loadPixels at h
    split at h
    next hpixel =>
      cases h
      exact .inl (pixelAt_error hpixel)
    next => cases h
    next =>
      split at h
      · cases h
        exact .inr ⟨i, rfl⟩
      · exact ih h

theorem loadBody_error {o : Orient} {pad : Bool} {s : State} {stop : Stop} (h : loadBody o pad s = .error stop) :
    StopsWith [.io, .unsupported, .config, .capacity, .bounds] s stop := by
  unfold loadBody at h
  dsimp only at h
  split at h
  · cases h
    exact stopsWith_raised (by decide)
  split at h
  · cases h
    exact stopsWith_raised (by decide)
  split at h
  · cases h
    exact stopsWith_raised (by decide)
  split at h
  · cases h
    exact stopsWith_raised (by decide)
  split at h
  · cases h
    exact stopsWith_raised (by decide)
  split at h
  · cases h
    exact stopsWith_raised (by decide)
  split at h <;> cases h
  next hload =>
    obtain rfl | ⟨k, rfl⟩ := loadPixels_error hload
    all_goals exact stopsWith_raised (by simp [CmdError.code])

theorem savePixels_error {s : State} {j : Job} {todo i : Nat} {e : CmdError} (h : savePixels s j todo i = .error e) :
    ∃ k, e = .bounds k := by
  induction todo generalizing i with
  | zero => cases h
  | succ todo ih =>
    unfold savePixels at h
    split at h
    · cases h
      exact ⟨i, rfl⟩
    · split at h <;> cases h
      next hrest => exact ih hrest

theorem saveBody_error {o : Orient} {pad : Bool} {s : State} {stop : Stop} (h : saveBody o pad s = .error stop) :
    StopsWith [.state, .validation, .bounds, .capacity] s stop := by
  unfold saveBody at h
  dsimp only at h
  split at h
  case isFalse =>
    cases h
    exact stopsWith_raised (by decide)
  case isTrue hv =>
    split at h
    · cases h
      exact stopsWith_raised (by simp [CmdError.code])
    split at h
    · cases h
      exact stopsWith_raised (by simp [CmdError.code])
    split at h
    next hf =>
      cases h
      exact .inr ⟨hv, hf⟩
    split at h
    · cases h
      exact stopsWith_raised (by decide)
    split at h
    next hsave =>
      cases h
      obtain ⟨k, rfl⟩ := savePixels_error hsave
      exact stopsWith_raised (by simp [CmdError.code])
    split at h <;> cases h
    exact stopsWith_raised (by decide)

/-- What can end a command: an error R321 lists for it, or a fault in an unspecified state. -/
theorem bodyOf_error {i : Instr} {s : State} {stop : Stop} (h : bodyOf i s = .error stop) :
    StopsWith (mayRaise i) s stop := by
  cases i
  case clrerr => cases h
  case sreset => cases h
  case strrst inp out => cases h
  case requant src dst => exact requantBody_error h
  case rdu wc be => exact rduBody_error h
  case wru wc be => exact wruBody_error h
  case wrnib => exact wrnibBody_error h
  case setfmt => exact setfmtBody_error h
  case setfmtid id => exact setfmtidBody_error h
  case decpix => exact decpixBody_error h
  case encpix => exact encpixBody_error h
  case taddr => exact taddrBody_error h
  case set3ds o pad => exact set3dsBody_error h
  case t3ds => exact t3dsBody_error h
  case load o pad => exact loadBody_error h
  case save o pad => exact saveBody_error h

end Sys2Proof.Machine
end

section
/-! What a committed command leaves alone: operands and host state, and what each valid flag guards (10_state.md R23 to R28). -/

namespace Sys2Proof.Machine

open Sys2Proof.Claims

/-! ### Frames -/

/-- No command but CLRERR and SRESET writes these. -/
structure OperandFrame (s t : State) : Prop where
  arg0 : t.arg0 = s.arg0
  arg1 : t.arg1 = s.arg1
  rt : t.rt = s.rt
  inLen : t.inLen = s.inLen
  inBuf : t.inBuf = s.inBuf
  params : t.params = s.params
  powerOns : t.powerOns = s.powerOns
  pending : t.pending = s.pending
  err : t.status.err = s.status.err
  errOp : t.status.errOp = s.status.errOp
  dropped : t.status.dropped = s.status.dropped

/-- FMT_VALID and what it guards (R26). -/
structure FmtFrame (s t : State) : Prop where
  fmtValid : t.status.fmtValid = s.status.fmtValid
  fmt : t.fmt = s.fmt

/-- T3DS_VALID and what it guards (R27). -/
structure T3dsFrame (s t : State) : Prop where
  t3dsValid : t.status.t3dsValid = s.status.t3dsValid
  t3dsCfg : t.t3dsCfg = s.t3dsCfg
  t3dsW : t.t3dsW = s.t3dsW
  t3dsH : t.t3dsH = s.t3dsH

/-- HDR_VALID and what it guards (R28, R33). -/
structure HdrFrame (s t : State) : Prop where
  hdrValid : t.status.hdrValid = s.status.hdrValid
  short : t.status.short = s.status.short
  hdr : t.hdr = s.hdr
  bmp : t.bmp = s.bmp

/-- What the commands on streams, pixels and addresses leave alone. -/
structure StreamFrame (s t : State) : Prop extends OperandFrame s t, FmtFrame s t, T3dsFrame s t, HdrFrame s t

theorem StreamFrame.trans {s t u : State} (h : StreamFrame s t) (h' : StreamFrame t u) : StreamFrame s u := by
  obtain ⟨⟨⟩, ⟨⟩, ⟨⟩, ⟨⟩⟩ := h
  obtain ⟨⟨⟩, ⟨⟩, ⟨⟩, ⟨⟩⟩ := h'
  constructor <;> constructor <;> simp only [*]

theorem streamFrame_advanceIn (s : State) (n : Nat) : StreamFrame s (advanceIn s n) := by
  constructor <;> constructor <;> rfl

theorem streamFrame_appendOut (s : State) (bs : List Byte) : StreamFrame s (appendOut s bs) := by
  constructor <;> constructor <;> rfl

theorem streamFrame_deliverPixel (c : Word) (s : State) : StreamFrame s (deliverPixel c s) := by
  constructor <;> constructor <;> rfl

theorem streamFrame_reportEnd (s : State) : StreamFrame s (reportEnd s) := by
  constructor <;> constructor <;> rfl

theorem streamFrame_commitSave (s : State) (container : List Byte) (dropped : Bool) :
    StreamFrame s (commitSave s container dropped) := by
  constructor <;> constructor <;> rfl

theorem nibPut_frame {nib : BitVec 4} {s t : State} (h : nibPut nib s = .ok t) : StreamFrame s t := by
  obtain ⟨-, rfl⟩ | ⟨-, -, rfl⟩ := nibPut_ok h
  all_goals constructor <;> constructor <;> rfl

theorem nibGet_frame {s t : State} {v : BitVec 4} (h : nibGet s = .ok (v, t)) : StreamFrame s t := by
  obtain ⟨-, -, rfl⟩ | ⟨-, -, -, rfl⟩ := nibGet_ok h
  all_goals constructor <;> constructor <;> rfl

theorem strrstBody_frame {inp out : Bool} {s t : State} (h : strrstBody inp out s = .ok t) : StreamFrame s t := by
  cases h
  cases inp <;> cases out
  all_goals constructor <;> constructor <;> rfl

theorem decpixBody_frame {s t : State} (h : decpixBody s = .ok t) : StreamFrame s t := by
  obtain ⟨-, l, -, ⟨-, -, rfl⟩ | ⟨-, hbytes⟩ | ⟨-, v, u, hget, rfl⟩⟩ := decpixBody_ok h
  · exact streamFrame_reportEnd s
  · obtain ⟨-, rfl⟩ := decodeBytes_ok hbytes
    exact (streamFrame_advanceIn s _).trans (streamFrame_deliverPixel _ _)
  · exact (nibGet_frame hget).trans (streamFrame_deliverPixel _ _)

theorem encpixBody_frame {s t : State} (h : encpixBody s = .ok t) : StreamFrame s t := by
  obtain ⟨-, l, -, hencode⟩ := encpixBody_ok h
  obtain ⟨-, hput⟩ | ⟨-, -, rfl⟩ := encodeColour_ok hencode
  · exact nibPut_frame hput
  · exact streamFrame_appendOut s _

/-- The commands that set a valid flag. -/
inductive SetsFlag : Instr → Prop where
  | setfmt : SetsFlag .setfmt
  | setfmtid (id : BitVec 4) : SetsFlag (.setfmtid id)
  | set3ds (o : Orient) (pad : Bool) : SetsFlag (.set3ds o pad)
  | load (o : Orient) (pad : Bool) : SetsFlag (.load o pad)

theorem bodyOf_streamFrame {i : Instr} {s t : State} (hclrerr : i ≠ .clrerr) (hsreset : i ≠ .sreset)
    (hset : ¬ SetsFlag i) (h : bodyOf i s = .ok t) : StreamFrame s t := by
  cases i
  case clrerr => exact absurd rfl hclrerr
  case sreset => exact absurd rfl hsreset
  case strrst inp out => exact strrstBody_frame h
  case requant src dst =>
    obtain ⟨-, -, rfl⟩ := requantBody_ok h
    constructor <;> constructor <;> rfl
  case rdu wc be =>
    obtain ⟨n, -, -, rfl⟩ := rduBody_ok h
    constructor <;> constructor <;> rfl
  case wru wc be =>
    obtain ⟨n, -, -, rfl⟩ := wruBody_ok h
    exact streamFrame_appendOut s _
  case wrnib => exact nibPut_frame (wrnibBody_ok h).2
  case setfmt => exact absurd .setfmt hset
  case setfmtid id => exact absurd (.setfmtid id) hset
  case decpix => exact decpixBody_frame h
  case encpix => exact encpixBody_frame h
  case taddr =>
    obtain ⟨-, rfl⟩ := taddrBody_ok h
    constructor <;> constructor <;> rfl
  case set3ds o pad => exact absurd (.set3ds o pad) hset
  case t3ds =>
    obtain ⟨-, -, rfl⟩ := t3dsBody_ok h
    constructor <;> constructor <;> rfl
  case load o pad => exact absurd (.load o pad) hset
  case save o pad =>
    obtain ⟨f, us, -, -, -, -, -, -, rfl⟩ := saveBody_ok h
    exact streamFrame_commitSave s _ _

/-- SETFMT and SETFMTID write FMT and FMT_VALID only. -/
structure SetsFmt (s t : State) : Prop extends OperandFrame s t, T3dsFrame s t, HdrFrame s t where
  fmtValid : t.status.fmtValid = true

/-- SET3DS sets T3DS_VALID; neither FMT nor a header. -/
structure SetsT3ds (s t : State) : Prop extends OperandFrame s t, FmtFrame s t, HdrFrame s t where
  t3dsValid : t.status.t3dsValid = true

/-- LOAD sets HDR_VALID; neither FMT nor T3DS registers. -/
structure SetsHdr (s t : State) : Prop extends OperandFrame s t, FmtFrame s t, T3dsFrame s t where
  hdrValid : t.status.hdrValid = true

theorem setsFmt_activate (w : Word) (s : State) : SetsFmt s (activate w s) := by
  refine ⟨?_, ?_, ?_, rfl⟩ <;> constructor <;> rfl

theorem set3dsBody_setsT3ds {o : Orient} {pad : Bool} {s t : State} (h : set3dsBody o pad s = .ok t) : SetsT3ds s t := by
  obtain ⟨-, -, rfl⟩ := set3dsBody_ok h
  refine ⟨?_, ?_, ?_, rfl⟩ <;> constructor <;> rfl

theorem loadBody_setsHdr {o : Orient} {pad : Bool} {s t : State} (h : loadBody o pad s = .ok t) : SetsHdr s t := by
  obtain ⟨f, m, count, -, -, -, -, -, -, rfl⟩ := loadBody_ok h
  refine ⟨?_, ?_, ?_, rfl⟩ <;> constructor <;> rfl

/-- What a committed command leaves alone, by the flag it sets. -/
theorem bodyOf_frame_cases {i : Instr} {s t : State} (hclrerr : i ≠ .clrerr) (hsreset : i ≠ .sreset)
    (h : bodyOf i s = .ok t) :
    StreamFrame s t ∨ ((i = .setfmt ∨ ∃ id, i = .setfmtid id) ∧ SetsFmt s t) ∨
      ((∃ o pad, i = .set3ds o pad) ∧ SetsT3ds s t) ∨ ((∃ o pad, i = .load o pad) ∧ SetsHdr s t) := by
  by_cases hset : SetsFlag i
  · refine .inr ?_
    cases hset with
    | setfmt =>
      obtain ⟨-, rfl⟩ := setfmtBody_ok h
      exact .inl ⟨.inl rfl, setsFmt_activate _ s⟩
    | setfmtid id =>
      obtain ⟨w, -, rfl⟩ := setfmtidBody_ok h
      exact .inl ⟨.inr ⟨id, rfl⟩, setsFmt_activate w s⟩
    | set3ds o pad => exact .inr (.inl ⟨⟨o, pad, rfl⟩, set3dsBody_setsT3ds h⟩)
    | load o pad => exact .inr (.inr ⟨⟨o, pad, rfl⟩, loadBody_setsHdr h⟩)
  · exact .inl (bodyOf_streamFrame hclrerr hsreset hset h)

theorem bodyOf_operandFrame {i : Instr} {s t : State} (hclrerr : i ≠ .clrerr) (hsreset : i ≠ .sreset)
    (h : bodyOf i s = .ok t) : OperandFrame s t := by
  obtain hf | ⟨-, hf⟩ | ⟨-, hf⟩ | ⟨-, hf⟩ := bodyOf_frame_cases hclrerr hsreset h
  all_goals exact hf.toOperandFrame

/-! ### The statements -/

/-- With no error recorded before and one after, the command was ended by it. -/
theorem exec_error_cases {i : Instr} {s t : State} (he : s.status.err = .noError) (h : exec i s = .next t)
    (ht : t.status.err ≠ .noError) : ∃ e, bodyOf i s = .error (.raised e) ∧ t = errorEntry i.opcode e s := by
  obtain ⟨-, rfl⟩ | ⟨-, rfl⟩ | ⟨hclrerr, hsreset, ⟨hne, -⟩ | ⟨-, hbody⟩ | ⟨-, hraised⟩⟩ := exec_next_cases h
  · exact absurd rfl ht
  · exact absurd rfl ht
  · exact absurd he hne
  · exact absurd ((bodyOf_operandFrame hclrerr hsreset hbody).err.trans he) ht
  · exact hraised

/-- Settles O9: the command's effect was discarded, and an error entry changes nothing else. -/
theorem failedCommandChangesOnlyErrorState : Obligations.FailedCommandChangesOnlyErrorState := by
  unfold Obligations.FailedCommandChangesOnlyErrorState
  intro i s t he h ht
  obtain ⟨e, -, rfl⟩ := exec_error_cases he h ht
  cases e
  case validation actual expected dim => exact ⟨rfl, fun hval => absurd rfl hval⟩
  case bounds k => exact ⟨rfl, fun _ hbounds => absurd rfl hbounds⟩
  all_goals exact ⟨rfl, fun _ _ => ⟨rfl, rfl⟩⟩

/-- Settles O10: the error that ended the command is one of its body's. -/
theorem commandsRaiseOnlyTheirErrors : Obligations.CommandsRaiseOnlyTheirErrors := by
  unfold Obligations.CommandsRaiseOnlyTheirErrors
  intro i s t he h ht
  obtain ⟨e, hraised, rfl⟩ := exec_error_cases he h ht
  rw [errorEntry_status, Status.recordError_err]
  exact bodyOf_error hraised

/-- Settles O12: CLRERR's flags. -/
theorem clrerrAcknowledgesTheError : Obligations.ClrerrAcknowledgesTheError := by
  unfold Obligations.ClrerrAcknowledgesTheError
  exact fun _ => rfl

/-- Settles O55: a committed command's frame; dropping, an error entry, CLRERR and SRESET by their fields. -/
theorem commandsKeepOperandsAndInput : Obligations.CommandsKeepOperandsAndInput := by
  unfold Obligations.CommandsKeepOperandsAndInput
  intro i s t h
  obtain ⟨-, rfl⟩ | ⟨rfl, rfl⟩ | ⟨hclrerr, hsreset, ⟨-, rfl⟩ | ⟨-, hbody⟩ | ⟨-, e, -, rfl⟩⟩ := exec_next_cases h
  · simp
  · simp
  · simp
  · have hf := bodyOf_operandFrame hclrerr hsreset hbody
    exact ⟨hf.inBuf, hf.params, hf.powerOns, hf.pending, fun _ => ⟨hf.arg0, hf.arg1, hf.rt, hf.inLen⟩⟩
  · simp

/-- CLRERR, dropping a command and an error entry leave the flags and what they guard alone. -/
structure GuardFrame (s t : State) : Prop extends FmtFrame s t, T3dsFrame s t, HdrFrame s t

theorem exec_guard_cases {i : Instr} {s t : State} (hsreset : i ≠ .sreset) (h : exec i s = .next t) :
    GuardFrame s t ∨ ((i = .setfmt ∨ ∃ id, i = .setfmtid id) ∧ SetsFmt s t) ∨
      ((∃ o pad, i = .set3ds o pad) ∧ SetsT3ds s t) ∨ ((∃ o pad, i = .load o pad) ∧ SetsHdr s t) := by
  obtain ⟨-, rfl⟩ | ⟨hi, -⟩ | ⟨hclrerr, -, ⟨-, rfl⟩ | ⟨-, hbody⟩ | ⟨-, e, -, rfl⟩⟩ := exec_next_cases h
  · exact .inl (by constructor <;> constructor <;> rfl)
  · exact absurd hi hsreset
  · exact .inl (by constructor <;> constructor <;> rfl)
  · obtain hf | hset := bodyOf_frame_cases hclrerr hsreset hbody
    · exact .inl { hf with }
    · exact .inr hset
  · exact .inl (by constructor <;> constructor <;> simp)

/-- Settles O56: a command sets its own flag, and leaves the others and what they guard alone. -/
theorem validFlagsAreClearedOnlyByReset : Obligations.ValidFlagsAreClearedOnlyByReset := by
  unfold Obligations.ValidFlagsAreClearedOnlyByReset
  intro i s t h hsreset
  have keepsFmt : FmtFrame s t → t.status.fmtValid = s.status.fmtValid ∧ t.fmt = s.fmt := fun hf => ⟨hf.fmtValid, hf.fmt⟩
  have keepsT3ds : T3dsFrame s t → t.status.t3dsValid = s.status.t3dsValid ∧ t.t3dsCfg = s.t3dsCfg ∧ t.t3dsW = s.t3dsW ∧
      t.t3dsH = s.t3dsH := fun hf => ⟨hf.t3dsValid, hf.t3dsCfg, hf.t3dsW, hf.t3dsH⟩
  have keepsHdr : HdrFrame s t → t.status.hdrValid = s.status.hdrValid ∧ t.status.short = s.status.short ∧ t.hdr = s.hdr ∧
      t.bmp = s.bmp := fun hf => ⟨hf.hdrValid, hf.short, hf.hdr, hf.bmp⟩
  obtain hf | ⟨hi, hf⟩ | ⟨⟨o, pad, rfl⟩, hf⟩ | ⟨⟨o, pad, rfl⟩, hf⟩ := exec_guard_cases hsreset h
  · exact ⟨hf.fmtValid.trans, hf.t3dsValid.trans, hf.hdrValid.trans, fun _ _ => keepsFmt hf.toFmtFrame,
      fun _ => keepsT3ds hf.toT3dsFrame, fun _ => keepsHdr hf.toHdrFrame⟩
  · refine ⟨fun _ => hf.fmtValid, hf.t3dsValid.trans, hf.hdrValid.trans, fun hid hset => ?_,
      fun _ => keepsT3ds hf.toT3dsFrame, fun _ => keepsHdr hf.toHdrFrame⟩
    obtain rfl | ⟨id, rfl⟩ := hi
    · exact absurd rfl hset
    · exact absurd rfl (hid id)
  · exact ⟨hf.fmtValid.trans, fun _ => hf.t3dsValid, hf.hdrValid.trans, fun _ _ => keepsFmt hf.toFmtFrame,
      fun hno => absurd rfl (hno o pad), fun _ => keepsHdr hf.toHdrFrame⟩
  · exact ⟨hf.fmtValid.trans, hf.t3dsValid.trans, fun _ => hf.hdrValid, fun _ _ => keepsFmt hf.toFmtFrame,
      fun _ => keepsT3ds hf.toT3dsFrame, fun hno => absurd rfl (hno o pad)⟩

end Sys2Proof.Machine
end

section
/-! The invariant `StateInv` holds after reset, and every access the host makes keeps it (60_exceptions.md R320, R334). -/

namespace Sys2Proof.Machine

open Sys2Proof.Claims

/-! ### Buffers -/

theorem memoryOk_nil (size : Nat) : MemoryOk [] size := ⟨List.Pairwise.nil, by simp⟩

/-- Bytes appended to OUT lie in it, and OUT_LEN does not wrap. -/
theorem appendOut_fits {s : State} {bs : List Byte} (h : StateInv s) (hfit : s.outLen.toNat + bs.length ≤ s.params.outSize) :
    MemoryOk (appendOut s bs).outBuf s.params.outSize ∧ (appendOut s bs).outLen.toNat ≤ s.params.outSize := by
  refine ⟨memoryOk_writeBytes h.outBuf (.inr hfit), ?_⟩
  obtain ⟨-, ⟨-, hsize⟩, -⟩ := h.params
  rw [appendOut_outLen, BitVec.toNat_add, BitVec.toNat_ofNat]
  omega

/-! ### Updates that keep the invariant -/

/-- A stream command keeps the invariant when what it does to OUT stays inside it. -/
theorem StateInv.of_streamFrame {s t : State} (h : StateInv s) (hf : StreamFrame s t)
    (hbuf : MemoryOk t.outBuf s.params.outSize) (hlen : t.outLen.toNat ≤ s.params.outSize) : StateInv t where
  params := hf.params ▸ h.params
  inBuf := by rw [hf.inBuf, hf.params]; exact h.inBuf
  outBuf := hf.params ▸ hbuf
  bmp := by rw [hf.bmp, hf.params]; exact h.bmp
  inLen := by rw [hf.inLen, hf.params]; exact h.inLen
  outLen := hf.params ▸ hlen
  fmt := by rw [hf.fmtValid, hf.fmt]; exact h.fmt
  t3ds := by rw [hf.t3dsValid, hf.t3dsW, hf.t3dsH]; exact h.t3ds
  hdr := by rw [hf.hdrValid, hf.hdr, hf.params]; exact h.hdr
  short := by rw [hf.short, hf.hdrValid]; exact h.short
  dropped := by rw [hf.dropped, hf.err]; exact h.dropped
  errOp := by rw [hf.err, hf.errOp]; exact h.errOp

theorem StateInv.appendOut {s : State} {bs : List Byte} (h : StateInv s)
    (hfit : s.outLen.toNat + bs.length ≤ s.params.outSize) : StateInv (appendOut s bs) :=
  h.of_streamFrame (streamFrame_appendOut s bs) (appendOut_fits h hfit).1 (appendOut_fits h hfit).2

theorem StateInv.dropCommand {s : State} (h : StateInv s) (he : s.status.err ≠ .noError) : StateInv (dropCommand s) :=
  { h with dropped := fun _ => he }

theorem StateInv.clearErrors {s : State} (h : StateInv s) : StateInv (clearErrors s) :=
  { h with dropped := nofun, errOp := fun _ => rfl }

theorem StateInv.errorEntry {s : State} (h : StateInv s) (op : BitVec 8) (e : CmdError) : StateInv (errorEntry op e s) := by
  have hdropped := e.code_ne_noError
  cases e
  all_goals exact { h with dropped := fun _ => hdropped, errOp := fun hno => absurd hno hdropped }

theorem StateInv.resetRegisters {s : State} (h : StateInv s) : StateInv (resetRegisters s) :=
  { h with
    inLen := Nat.zero_le _, outLen := Nat.zero_le _, fmt := nofun, t3ds := nofun, hdr := nofun, short := nofun
    dropped := nofun, errOp := fun _ => rfl }

theorem StateInv.powerOnReset {s : State} (h : StateInv s) : StateInv (powerOnReset s) :=
  { h.resetRegisters with inBuf := memoryOk_nil _, outBuf := memoryOk_nil _, bmp := memoryOk_nil _ }

theorem StateInv.activate {s : State} {w : Word} (h : StateInv s) (hw : checkFmt w = none) : StateInv (activate w s) :=
  { h with fmt := fun _ => hw }

theorem StateInv.nibPut {nib : BitVec 4} {s t : State} (h : StateInv s) (hput : nibPut nib s = .ok t) : StateInv t := by
  obtain ⟨-, rfl⟩ | ⟨-, hfit, rfl⟩ := nibPut_ok hput
  · exact { h with }
  · exact { h.appendOut (bs := [nib ++ s.nibw]) hfit with }

theorem StateInv.nibGet {s t : State} {v : BitVec 4} (h : StateInv s) (hget : nibGet s = .ok (v, t)) : StateInv t := by
  obtain ⟨-, -, rfl⟩ | ⟨-, -, -, rfl⟩ := nibGet_ok hget
  all_goals exact { h with }

theorem StateInv.restartInAt {s : State} (h : StateInv s) (pos : Word) : StateInv (restartInAt pos s) := { h with }

theorem StateInv.restartOut {s : State} (h : StateInv s) : StateInv (restartOut s) :=
  { h with outLen := Nat.zero_le _ }

/-- A padded dimension is at most 65536. -/
theorem effective_bounds {d : Nat} (pad : Bool) (h0 : d ≠ 0) (hd : d < 65536) :
    1 ≤ effective pad d ∧ effective pad d ≤ 65536 := by
  cases pad
  · exact ⟨Nat.one_le_iff_ne_zero.2 h0, hd.le⟩
  · have heq : effective true d = 2 ^ Nat.clog 2 d := padDim_eq_two_pow_clog d
    have hle : Nat.clog 2 d ≤ 16 := Nat.clog_le_of_le_pow hd.le
    rw [heq]
    exact ⟨Nat.one_le_two_pow, Nat.pow_le_pow_right Nat.two_pos hle⟩

theorem effective_field_bounds (pad : Bool) {w : Word} {lo : Nat} (h0 : field w lo 16 ≠ 0) :
    1 ≤ (BitVec.ofNat 32 (effective pad (field w lo 16))).toNat ∧
      (BitVec.ofNat 32 (effective pad (field w lo 16))).toNat ≤ 65536 := by
  have hlt : field w lo 16 < 65536 := (w.extractLsb' lo 16).isLt
  obtain ⟨h1, h2⟩ := effective_bounds pad h0 hlt
  rw [BitVec.toNat_ofNat, Nat.mod_eq_of_lt (by omega)]
  exact ⟨h1, h2⟩

theorem fmtTable_valid {w : Word} (hw : w ∈ fmtTable) : checkFmt w = none := by
  fin_cases hw <;> rfl

/-- What LOAD latches is loadable: a table id, positive dimensions, as many pixels as BMP holds (46_container R284). -/
theorem StateInv.loadBody {o : Orient} {pad : Bool} {s t : State} (h : StateInv s) (hload : loadBody o pad s = .ok t) :
    StateInv t := by
  obtain ⟨f, m, count, -, -, hf, ⟨hw, hh⟩, hfit, hpixels, rfl⟩ := loadBody_ok hload
  obtain ⟨hid, -, -⟩ := tableFormat_some hf
  obtain ⟨-, -, hwf, hmem⟩ := loadPixels_ok hpixels
  refine { h with bmp := ⟨hwf h.bmp.1, fun c hc => ?_⟩, hdr := fun _ => ⟨hid, hw, hh, hfit⟩, short := fun _ => rfl }
  obtain hlt | hold := hmem c hc
  · exact hlt.trans_le (Nat.mul_le_mul_left 4 hfit)
  · exact h.bmp.2 c hold

theorem StateInv.saveBody {o : Orient} {pad : Bool} {s t : State} (h : StateInv s) (hsave : saveBody o pad s = .ok t) :
    StateInv t := by
  obtain ⟨f, us, -, -, -, -, -, hroom, rfl⟩ := saveBody_ok hsave
  refine h.of_streamFrame (streamFrame_commitSave s _ _) ?_ ?_
  · exact memoryOk_writeBytes h.outBuf (.inr (by rwa [Nat.zero_add]))
  · obtain ⟨-, ⟨-, hsize⟩, -⟩ := h.params
    rw [commitSave_outLen, BitVec.toNat_ofNat, Nat.mod_eq_of_lt (by omega)]
    exact hroom

/-! ### Commands -/

theorem StateInv.bodyOf {i : Instr} {s t : State} (h : StateInv s) (hbody : bodyOf i s = .ok t) : StateInv t := by
  cases i
  case clrerr =>
    cases hbody
    exact h.clearErrors
  case sreset =>
    cases hbody
    exact h.resetRegisters
  case strrst inp out =>
    cases hbody
    cases inp <;> cases out
    · exact h
    · exact h.restartOut
    · exact h.restartInAt 0#32
    · exact (h.restartInAt 0#32).restartOut
  case requant src dst =>
    obtain ⟨-, -, rfl⟩ := requantBody_ok hbody
    exact { h with }
  case rdu wc be =>
    obtain ⟨n, -, -, rfl⟩ := rduBody_ok hbody
    exact { h with }
  case wru wc be =>
    obtain ⟨n, -, hfit, rfl⟩ := wruBody_ok hbody
    exact h.appendOut (by rwa [orderedBytes_length])
  case wrnib => exact h.nibPut (wrnibBody_ok hbody).2
  case setfmt =>
    obtain ⟨hw, rfl⟩ := setfmtBody_ok hbody
    exact h.activate hw
  case setfmtid id =>
    obtain ⟨w, hw, rfl⟩ := setfmtidBody_ok hbody
    exact h.activate (fmtTable_valid (List.mem_of_getElem? hw))
  case decpix =>
    obtain ⟨-, l, -, ⟨-, -, rfl⟩ | ⟨-, hbytes⟩ | ⟨-, v, u, hget, rfl⟩⟩ := decpixBody_ok hbody
    · exact { h with }
    · obtain ⟨-, rfl⟩ := decodeBytes_ok hbytes
      exact { h with }
    · exact { h.nibGet hget with }
  case encpix =>
    obtain ⟨-, l, -, hencode⟩ := encpixBody_ok hbody
    obtain ⟨-, hput⟩ | ⟨-, hfit, rfl⟩ := encodeColour_ok hencode
    · exact h.nibPut hput
    · exact h.appendOut (by rwa [orderedBytes_length])
  case taddr =>
    obtain ⟨-, rfl⟩ := taddrBody_ok hbody
    exact { h with }
  case set3ds o pad =>
    obtain ⟨hwd, hht, rfl⟩ := set3dsBody_ok hbody
    exact { h with t3ds := fun _ => ⟨effective_field_bounds pad hwd, effective_field_bounds pad hht⟩ }
  case t3ds =>
    obtain ⟨-, -, rfl⟩ := t3dsBody_ok hbody
    exact { h with }
  case load o pad => exact h.loadBody hbody
  case save o pad => exact h.saveBody hbody

/-- An active format has a family, and a latched header a format: no state of the invariant is unspecified (log 9). -/
theorem StateInv.not_unspecified {s : State} (h : StateInv s) : ¬ Unspecified s := by
  rintro (⟨hv, hl⟩ | ⟨hv, hf⟩)
  · have hvalid : ValidDescriptor s.fmt := by
      by_contra hn
      cases (checkFmt_of_not_valid hn).symm.trans (h.fmt hv)
    obtain ⟨-, -, ⟨hfam, -⟩ | ⟨hfam | hfam, -⟩⟩ := hvalid
    · cases hl.symm.trans ((layoutOf_eq_rgba_iff _).2 hfam)
    · cases hl.symm.trans ((layoutOf_eq_la_iff _).2 hfam)
    · cases hl.symm.trans ((layoutOf_eq_hl_iff _).2 hfam)
  · obtain ⟨⟨h0, h11⟩, -⟩ := h.hdr hv
    obtain ⟨f, hf'⟩ := tableFormat_of_range h0 h11
    cases hf.symm.trans hf'

/-- Settles O57: each clause of the invariant is evaluated. -/
theorem resetMeetsTheInvariant : Obligations.ResetMeetsTheInvariant := by
  unfold Obligations.ResetMeetsTheInvariant
  constructor <;> decide

/-- Settles O59: a command's body commits a state of the invariant or raises an error; it is stuck in unspecified states only. -/
theorem everyCommandCompletes : Obligations.EveryCommandCompletes := by
  unfold Obligations.EveryCommandCompletes
  intro i s h
  by_cases hclrerr : i = .clrerr
  · subst hclrerr
    exact ⟨_, rfl, h.clearErrors⟩
  by_cases hsreset : i = .sreset
  · subst hsreset
    exact ⟨_, rfl, h.resetRegisters⟩
  obtain ⟨he, ho⟩ | ⟨he, t, hbody, ho⟩ | ⟨he, e, hbody, ho⟩ | ⟨-, f, hbody, ho⟩ :=
    runCommand_cases (exec_eq_runCommand_bodyOf hclrerr hsreset s).symm
  · exact ⟨_, ho, h.dropCommand he⟩
  · exact ⟨_, ho, h.bodyOf hbody⟩
  · exact ⟨_, ho, h.errorEntry _ e⟩
  · exact absurd (bodyOf_error hbody) h.not_unspecified

/-! ### Host accesses (10_state R52, R53, 20_memory R71, R72) -/

theorem StateInv.writeReg {s : State} (h : StateInv s) (r : Reg) (v : Word) : StateInv (writeReg r v s) := by
  cases r
  case inLen =>
    obtain ⟨⟨-, hsize⟩, -, -⟩ := h.params
    refine { h with inLen := ?_ }
    change (BitVec.ofNat 32 (min v.toNat s.params.inSize)).toNat ≤ s.params.inSize
    rw [BitVec.toNat_ofNat, Nat.mod_eq_of_lt (by omega)]
    exact Nat.min_le_right _ _
  case inPos => exact h.restartInAt v
  all_goals exact { h with }

/-- The bytes of a window write stay inside the buffer (20_memory R71). -/
theorem windowBytes_fit (s : State) (b : Buffer) (off width : Nat) (v : Word) :
    windowBytes s b off width v = [] ∨ off + (windowBytes s b off width v).length ≤ bufSize s.params b := by
  have hlen : (windowBytes s b off width v).length ≤ bufSize s.params b - off := List.length_take_le _ _
  obtain hout | hin := Nat.le_total (bufSize s.params b) off
  · exact .inl (List.eq_nil_of_length_eq_zero (by omega))
  · exact .inr (by omega)

theorem StateInv.windowWrite {s : State} (h : StateInv s) (b : Buffer) (off width : Nat) (v : Word) :
    StateInv (windowWrite s b off width v) := by
  have hfit := windowBytes_fit s b off width v
  cases b
  case inp => exact { h with inBuf := memoryOk_writeBytes h.inBuf hfit }
  case out => exact h
  case bmp => exact { h with bmp := memoryOk_writeBytes h.bmp hfit }

theorem StateInv.illegalCommand {s : State} (h : StateInv s) (op : BitVec 8) : StateInv (illegalCommand op s) := by
  unfold Machine.illegalCommand
  split
  · exact h.errorEntry op .illegal
  · exact h.dropCommand ‹_›

/-- Issuing a word completes and keeps the invariant, whether it is a command or not (30_encoding R106). -/
theorem StateInv.issue {s : State} (h : StateInv s) (w : Word) : SafeOutcome (issue w s) := by
  cases hdecode : decode w with
  | ok i =>
    obtain ⟨t, ht, hinv⟩ := everyCommandCompletes i s h
    rw [issue_of_decode_ok hdecode, ht]
    exact hinv
  | error e =>
    rw [issue_of_decode_error hdecode]
    exact h.illegalCommand _

theorem StateInv.serve {s : State} (h : StateInv s) (op : HostOp) : SafeOutcome (serve op s) := by
  obtain ⟨-, ho⟩ | ⟨d, ho⟩ | ⟨r, v, -, ho⟩ | ⟨v, ho⟩ | ⟨b, off, width, v, ho⟩ | ⟨addr, width, why, hwhy, ho⟩ :=
    serve_cases (rfl : Machine.serve op s = Machine.serve op s)
  all_goals rw [ho]
  · exact h.powerOnReset
  · exact { h with }
  · exact h.writeReg r v
  · exact h.issue v
  · exact h.windowWrite b off width v
  · exact targetOf_reject hwhy

/-- Settles O58: an idle step keeps the state, any other serves one access of the host. -/
theorem stepKeepsTheInvariant : Obligations.StepKeepsTheInvariant := by
  unfold Obligations.StepKeepsTheInvariant
  intro s h
  cases hp : s.pending with
  | nil =>
    rw [step_idle hp]
    exact h
  | cons op rest =>
    have hrest : StateInv { s with pending := rest } := { h with }
    rw [step_serve hp]
    exact hrest.serve op

end Sys2Proof.Machine
end

section
/-! Streams and the requantizer as commands (41_requantizer.md R134, 42_stream_io.md R150 to R156), and the resets. -/

namespace Sys2Proof.Machine

open Sys2Proof.Claims

/-! ### Waiting and resets (60_exceptions R334, 70_reset R350, R351) -/

/-- Settles O8: a step with nothing pending. -/
theorem idleStepKeepsTheState : Obligations.IdleStepKeepsTheState := by
  unfold Obligations.IdleStepKeepsTheState
  exact fun _ h => step_idle h

theorem readReg_reset (r : Reg) : readReg r State.reset = 0#32 := by
  cases r
  case hdr i => simp [readReg, State.reset]
  case tbl j => simp [readReg, State.reset]
  case rt j => simp [readReg, State.reset]
  all_goals rfl

theorem readReg_resetRegisters (r : Reg) (s : State) : readReg r (resetRegisters s) = 0#32 := by
  rw [← readReg_reset r]
  cases r <;> rfl

theorem readReg_powerOnReset (r : Reg) (s : State) : readReg r (powerOnReset s) = 0#32 := by
  rw [← readReg_reset r]
  cases r <;> rfl

/-- A buffer nothing has been written to reads as power-on left it (20_memory R87). -/
theorem readByte_of_empty {s : State} (hin : s.inBuf = []) (hout : s.outBuf = []) (hbmp : s.bmp = []) (b : Buffer) (a : Nat) :
    readByte s b a = Config.powerOnByte s.powerOns b a := by
  cases b <;> simp [readByte, State.bufMem, Memory.byteAt, Memory.read?, hin, hout, hbmp]

/-- Settles O13: the registers of the reset state. -/
theorem sresetZeroesEveryRegister : Obligations.SresetZeroesEveryRegister := by
  unfold Obligations.SresetZeroesEveryRegister
  exact fun s => ⟨_, rfl, fun r => readReg_resetRegisters r s, rfl, rfl, rfl, rfl, rfl, rfl, rfl⟩

/-- Settles O14: the registers of the reset state, and buffers with nothing written. -/
theorem powerOnResetsRegistersAndBuffers : Obligations.PowerOnResetsRegistersAndBuffers := by
  unfold Obligations.PowerOnResetsRegistersAndBuffers
  refine ⟨readReg_reset, readByte_of_empty rfl rfl rfl, fun s rest hp => ?_⟩
  exact ⟨powerOnReset { s with pending := rest }, step_serve hp, fun r => readReg_powerOnReset r _,
    readByte_of_empty rfl rfl rfl, rfl, rfl⟩

/-! ### REQUANT and STRRST -/

/-- Settles O15: the body's checks in their order. -/
theorem requantWritesTheResult : Obligations.RequantWritesTheResult := by
  unfold Obligations.RequantWritesTheResult
  refine fun s f t he => ⟨fun hf ht hv => ?_, fun hdepth => ?_, fun hf ht hv => ?_⟩
  · have hbody : requantBody f t s = .ok { s with res0 := BitVec.ofNat 32 (requant s.arg0.toNat f.toNat t.toNat) } := by
      rw [requantBody, if_neg (by omega), if_neg (by omega)]
    exact runCommand_ok he hbody
  · have hbody : requantBody f t s = .error (.raised .config) := if_pos hdepth
    exact runCommand_raised he hbody
  · have hbody : requantBody f t s = .error (.raised .range) := by
      rw [requantBody, if_neg (by omega), if_pos hv, raise_eq]
    exact runCommand_raised he hbody

theorem exec_strrst {s : State} (he : s.status.err = .noError) (inp out : Bool) :
    exec (.strrst inp out) s =
      .next (if out then restartOut (if inp then restartInAt 0#32 s else s) else if inp then restartInAt 0#32 s else s) :=
  runCommand_ok (op := (Instr.strrst inp out).opcode) (body := strrstBody inp out) he rfl

/-- Settles O22: STRRST's four forms are evaluated. -/
theorem strrstRestartsTheSelectedStreams : Obligations.StrrstRestartsTheSelectedStreams := by
  unfold Obligations.StrrstRestartsTheSelectedStreams
  exact fun s he => ⟨exec_strrst he false false, exec_strrst he true false, exec_strrst he false true,
    exec_strrst he true true⟩

/-! ### Stream values (00_scope R13, 20_memory R74) -/

theorem reverse_map_range (f : Nat → Byte) (n : Nat) :
    ((List.range n).map f).reverse = (List.range n).map fun i => f (n - 1 - i) := by
  refine List.ext_getElem (by simp) fun i h _ => ?_
  simp

theorem orderedValue_readBytes (s : State) (be : Bool) (a n : Nat) :
    orderedValue be (readBytes s .inp a n) = streamValue s be a n := by
  cases be
  · exact (streamValue_eq_leValue s a n).symm
  · have hreflect := Finset.sum_range_reflect (fun i => (readByte s .inp (a + i)).toNat * 2 ^ (8 * (n - 1 - i))) n
    rw [streamValue, orderedValue, if_pos rfl, beValue, readBytes, reverse_map_range, leValue_map_range]
    simp only [if_true]
    rw [← hreflect]
    refine Finset.sum_congr rfl fun i hi => ?_
    have hin := Finset.mem_range.1 hi
    have hback : n - 1 - (n - 1 - i) = i := by omega
    rw [hback]

theorem streamValue_lt (s : State) (be : Bool) (a n : Nat) : streamValue s be a n < 2 ^ (8 * n) := by
  rw [← orderedValue_readBytes]
  exact (orderedValue_lt be _).trans_eq (by rw [readBytes_length])

/-- A width code's width is 1 to 4 bytes, or 8 (30_encoding R102). -/
theorem nbytes_of_mem_widths {wc : BitVec 3} {n : Nat} (h : (wc, n) ∈ widths) : nbytes wc = some n ∧ (n ≤ 4 ∨ n = 8) := by
  simp only [widths, List.mem_cons, List.not_mem_nil, or_false, Prod.mk.injEq] at h
  obtain ⟨rfl, rfl⟩ | ⟨rfl, rfl⟩ | ⟨rfl, rfl⟩ | ⟨rfl, rfl⟩ | ⟨rfl, rfl⟩ := h <;> decide

theorem add_ofNat_eq (w : Word) (n : Nat) : w + BitVec.ofNat 32 n = BitVec.ofNat 32 (w.toNat + n) := by
  rw [BitVec.ofNat_add, BitVec.ofNat_toNat, BitVec.setWidth_eq]

/-- Settles O18: the bytes' value in the two orders is the weighted sum; fewer than five bytes leave the high word 0. -/
theorem rduReadsTheStreamValue : Obligations.RduReadsTheStreamValue := by
  unfold Obligations.RduReadsTheStreamValue
  intro s wc be n he hn
  obtain ⟨hwc, hwidth⟩ := nbytes_of_mem_widths hn
  refine ⟨fun hfit => ?_, fun hshort => ?_⟩
  · have hhigh : BitVec.ofNat 32 (streamValue s be s.inPos.toNat n / 2 ^ 32) =
        if n = 8 then BitVec.ofNat 32 (streamValue s be s.inPos.toNat n / 2 ^ 32) else 0#32 := by
      split_ifs with h8
      · rfl
      · have hlt : streamValue s be s.inPos.toNat n < 2 ^ 32 :=
          (streamValue_lt s be _ n).trans_le (Nat.pow_le_pow_right Nat.two_pos (by omega))
        rw [Nat.div_eq_of_lt hlt]
    have hin : inShort s n = false := by simpa [inShort] using hfit
    rw [← hhigh, ← add_ofNat_eq]
    refine runCommand_ok he ?_
    simp only [rduBody, hwc, hin, orderedValue_readBytes]
    rfl
  · have hbody : rduBody wc be s = .error (.raised .io) := by
      simp only [rduBody, hwc, (inShort_iff s n).2 hshort, if_true, raise_eq]
    exact runCommand_raised he hbody

/-! ### Bytes appended to OUT (R150, R153) -/

theorem readByte_appendOut {s : State} {bs : List Byte} {i : Nat} (hi : i < bs.length) :
    readByte (appendOut s bs) .out (s.outLen.toNat + i) = bs[i] := by
  have hin : s.outLen.toNat ≤ s.outLen.toNat + i ∧ s.outLen.toNat + i < s.outLen.toNat + bs.length := by omega
  simp only [readByte, State.bufMem, appendOut, byteAt_writeBytes, dif_pos hin, Nat.add_sub_cancel_left]

theorem outKept_appendOut (s : State) (bs : List Byte) : OutKept s (appendOut s bs) s.outLen.toNat bs.length :=
  fun _ hc => byteAt_writeBytes_outside s.outBuf s.powerOns .out hc

theorem appendOut_eq (s : State) (bs : List Byte) :
    appendOut s bs = { s with
      outBuf := (appendOut s bs).outBuf, outLen := BitVec.ofNat 32 (s.outLen.toNat + bs.length) } := by
  rw [← add_ofNat_eq]
  rfl

theorem orderedBytes_getElem (be : Bool) {v n i : Nat} (hi : i < n) :
    (orderedBytes be v n)[i]'(by rwa [orderedBytes_length]) = streamByte be v n i := by
  have hpow : ∀ k, 256 ^ k = 2 ^ (8 * k) := fun k => by rw [pow_mul]; norm_num
  cases be
  · simp [orderedBytes, streamByte, leBytes_getElem, hpow]
  · simp [orderedBytes, beBytes, streamByte, leBytes_getElem, hpow]

/-- The n ordered bytes of a value at OUT_LEN, the rest of OUT kept, OUT_LEN past them. -/
theorem appendOut_orderedBytes (s : State) (be : Bool) (v n : Nat) :
    appendOut s (orderedBytes be v n) = { s with
        outBuf := (appendOut s (orderedBytes be v n)).outBuf, outLen := BitVec.ofNat 32 (s.outLen.toNat + n) } ∧
      (∀ i, i < n → readByte (appendOut s (orderedBytes be v n)) .out (s.outLen.toNat + i) = streamByte be v n i) ∧
      OutKept s (appendOut s (orderedBytes be v n)) s.outLen.toNat n := by
  have heq := appendOut_eq s (orderedBytes be v n)
  have hkept := outKept_appendOut s (orderedBytes be v n)
  rw [orderedBytes_length] at heq hkept
  refine ⟨heq, fun i hi => ?_, hkept⟩
  rw [readByte_appendOut (by rwa [orderedBytes_length]), orderedBytes_getElem be hi]

/-! ### WRU (R153) -/

/-- The low bytes of a value are those of the value cut to them. -/
theorem streamByte_mod (be : Bool) {v n i : Nat} (hi : i < n) : streamByte be (v % 2 ^ (8 * n)) n i = streamByte be v n i := by
  have hcut : ∀ k, k < n → BitVec.ofNat 8 (v % 2 ^ (8 * n) / 2 ^ (8 * k)) = BitVec.ofNat 8 (v / 2 ^ (8 * k)) := by
    intro k hk
    have hsplit : 2 ^ (8 * n) = 2 ^ (8 * k) * 2 ^ (8 * (n - k)) := by rw [← pow_add]; congr 1; omega
    have hdvd : 2 ^ 8 ∣ 2 ^ (8 * (n - k)) := pow_dvd_pow 2 (by omega)
    refine BitVec.eq_of_toNat_eq ?_
    rw [BitVec.toNat_ofNat, BitVec.toNat_ofNat, hsplit, Nat.mod_mul_right_div_self, Nat.mod_mod_of_dvd _ hdvd]
  unfold streamByte
  exact hcut _ (by split <;> omega)

/-- WRU's value is {ARG1, ARG0} cut to its bytes. -/
theorem wruValue_eq (s : State) {n : Nat} (hn : n ≤ 4 ∨ n = 8) :
    wruValue n s = (s.arg0.toNat + 2 ^ 32 * s.arg1.toNat) % 2 ^ (8 * n) := by
  unfold wruValue
  split_ifs with h8
  · subst h8
    omega
  · have hsplit : 2 ^ 32 = 2 ^ (8 * n) * 2 ^ (32 - 8 * n) := by rw [← pow_add]; congr 1; omega
    rw [hsplit, Nat.mul_assoc, Nat.add_mul_mod_self_left]

/-- Settles O19: the bytes of the cut value are those of {ARG1, ARG0}. -/
theorem wruAppendsTheValue : Obligations.WruAppendsTheValue := by
  unfold Obligations.WruAppendsTheValue
  intro s wc be n he hn hfit
  obtain ⟨hwc, hwidth⟩ := nbytes_of_mem_widths hn
  have hroom : outOverflows s n = false := by simpa [outOverflows] using hfit
  have hbody : wruBody wc be s = .ok (appendOut s (orderedBytes be (wruValue n s) n)) := by
    simp only [wruBody, hwc, hroom, Bool.false_eq_true, if_false]
  obtain ⟨heq, hbytes, hkept⟩ := appendOut_orderedBytes s be (wruValue n s) n
  refine ⟨_, runCommand_ok he hbody, heq, fun i hi => ?_, hkept⟩
  rw [hbytes i hi, wruValue_eq s hwidth, streamByte_mod be hi]

/-! ### The nibble packer (R154, R155) -/

theorem nibPut_first {s : State} (nib : BitVec 4) (hp : s.status.nibwPend = false) :
    nibPut nib s = .ok { s with nibw := nib, status := { s.status with nibwPend := true } } := by
  simp [nibPut, hp]

theorem nibPut_full {s : State} (nib : BitVec 4) (hp : s.status.nibwPend = true)
    (hfull : s.params.outSize < s.outLen.toNat + 1) : nibPut nib s = .error (.raised .capacity) := by
  simp [nibPut, hp, (outOverflows_iff s 1).2 hfull]

/-- A second nibble completes the byte `first + 16*second`. -/
theorem nibPut_second {s : State} {v : Nat} (hv : v < 16) (hp : s.status.nibwPend = true)
    (hfit : s.outLen.toNat + 1 ≤ s.params.outSize) :
    ∃ t, nibPut (BitVec.ofNat 4 v) s = .ok t ∧
      t = { s with
        outBuf := t.outBuf, outLen := BitVec.ofNat 32 (s.outLen.toNat + 1)
        status := { s.status with nibwPend := false } } ∧
      (readByte t .out s.outLen.toNat).toNat = s.nibw.toNat + 16 * v ∧ OutKept s t s.outLen.toNat 1 := by
  have hroom : outOverflows s 1 = false := by simpa [outOverflows] using hfit
  refine ⟨{ appendOut s [BitVec.ofNat 4 v ++ s.nibw] with status := { s.status with nibwPend := false } }, ?_, ?_, ?_,
    outKept_appendOut s [BitVec.ofNat 4 v ++ s.nibw]⟩
  · simp only [nibPut, hp, hroom, Bool.false_eq_true, if_false, if_true]
  · rw [← add_ofNat_eq]
    rfl
  · have hbyte := readByte_appendOut (s := s) (bs := [BitVec.ofNat 4 v ++ s.nibw]) (i := 0) Nat.one_pos
    calc (readByte (appendOut s [BitVec.ofNat 4 v ++ s.nibw]) .out s.outLen.toNat).toNat
        = (BitVec.ofNat 4 v ++ s.nibw).toNat := congrArg BitVec.toNat hbyte
      _ = v * 2 ^ 4 + s.nibw.toNat := by rw [toNat_append_eq_add, BitVec.toNat_ofNat, Nat.mod_eq_of_lt hv]
      _ = s.nibw.toNat + 16 * v := by omega

theorem wrnibBody_of_le {s : State} (h : s.arg0.toNat ≤ 15) : wrnibBody s = nibPut (BitVec.ofNat 4 s.arg0.toNat) s := by
  rw [wrnibBody, if_neg (by omega)]
  rfl

/-- Settles O21: the packer's two cases, and RANGE before it. -/
theorem wrnibPacksPairsOfNibbles : Obligations.WrnibPacksPairsOfNibbles := by
  unfold Obligations.WrnibPacksPairsOfNibbles
  refine ⟨fun s he harg hp => ?_, fun s he harg hp hfit => ?_, fun s he harg => ?_⟩
  · exact runCommand_ok he ((wrnibBody_of_le harg).trans (nibPut_first _ hp))
  · obtain ⟨t, hput, ht⟩ := nibPut_second (v := s.arg0.toNat) (by omega) hp hfit
    exact ⟨t, runCommand_ok he ((wrnibBody_of_le harg).trans hput), ht⟩
  · have hbody : wrnibBody s = .error (.raised .range) := if_pos harg
    exact runCommand_raised he hbody

end Sys2Proof.Machine
end

section
/-! Descriptors and the colours they code (43_pixel_codec.md R181, R185, R197). -/

namespace Sys2Proof.Machine

open Sys2Proof.Claims

/-! ### Which words are valid, and the table (R181, R185) -/

theorem checkFmt_eq_none_iff (w : Word) : checkFmt w = none ↔ ValidDescriptor w := by
  refine ⟨fun h => ?_, checkFmt_of_valid⟩
  by_contra hn
  cases (checkFmt_of_not_valid hn).symm.trans h

theorem descriptorError_eq_unsupported_iff (w : Word) :
    descriptorError w = .unsupported ↔ bitsOf w 29 3 = 0 ∧ bitsOf w 24 2 = 3 := by
  unfold descriptorError
  split_ifs with h <;> simp [h]

/-- A valid descriptor is of one of the three families. -/
theorem family_ne_three_of_valid {w : Word} (h : ValidDescriptor w) : bitsOf w 24 2 ≠ 3 := by
  obtain ⟨-, -, ⟨hfam, -⟩ | ⟨hfam, -⟩⟩ := (validDescriptor_iff w).1 h <;> omega

/-- Settles O23: a valid word passes, another raises its error. -/
theorem checkFmtFollowsTheRule : Obligations.CheckFmtFollowsTheRule := by
  unfold Obligations.CheckFmtFollowsTheRule
  refine fun w => ⟨checkFmt_eq_none_iff w, ?_, ?_⟩
  · obtain ⟨hv, hc⟩ | ⟨-, hc⟩ := checkFmt_cases w
    · have hfam := family_ne_three_of_valid hv
      simp [hc, hfam]
    · rw [hc, Option.some_inj, descriptorError_eq_unsupported_iff]
  · cases hc : checkFmt w with
    | none => exact .inl rfl
    | some e => obtain rfl | rfl := checkFmt_error hc <;> simp

theorem formatIds_eq_fmtTable : formatIds = fmtTable := by decide

theorem tableFormat_eq_some_iff (fid : Int) (l : Layout) (w : Word) :
    tableFormat fid = some (l, w) ↔ 0 ≤ fid ∧ formatIds[fid.toNat]? = some w ∧ layoutOf w = some l := by
  rw [formatIds_eq_fmtTable]
  unfold tableFormat
  split
  case isFalse h => simp [h]
  case isTrue h =>
    cases fmtTable[fid.toNat]? with
    | none => simp
    | some w' =>
      cases hl : layoutOf w' with
      | none =>
        simp only [hl, Option.map_none, reduceCtorEq, false_iff, not_and, Option.some.injEq]
        rintro - rfl
        simp [hl]
      | some l' =>
        simp only [hl, Option.map_some, Option.some.injEq, Prod.mk.injEq]
        constructor
        · rintro ⟨rfl, rfl⟩
          exact ⟨h, rfl, hl⟩
        · rintro ⟨-, rfl, hl'⟩
          exact ⟨Option.some.inj (hl.symm.trans hl'), rfl⟩

/-- Settles O25: ids 0 to 11 are the table's, each entry valid; the other four raise. -/
theorem setfmtidSelectsTheTableEntry : Obligations.SetfmtidSelectsTheTableEntry := by
  unfold Obligations.SetfmtidSelectsTheTableEntry
  refine ⟨tableFormat_eq_some_iff, fun s id he => ⟨fun w hw => ?_, fun hid => ?_, fun hid => ?_⟩⟩
  · rw [formatIds_eq_fmtTable] at hw
    obtain ⟨hlt, -⟩ := List.getElem?_eq_some_iff.1 hw
    have hlen : fmtTable.length = 12 := rfl
    have hblock : ¬ (id = 12#4 ∨ id = 13#4) := by rintro (rfl | rfl) <;> simp [hlen] at hlt
    refine ⟨(checkFmt_eq_none_iff w).1 (fmtTable_valid (List.mem_of_getElem? hw)), ?_⟩
    have hbody : setfmtidBody id s = .ok (activate w s) := by rw [setfmtidBody, if_neg hblock, hw]
    exact runCommand_ok he hbody
  · have hblock : id = 12#4 ∨ id = 13#4 := hid.imp BitVec.eq_of_toNat_eq BitVec.eq_of_toNat_eq
    have hbody : setfmtidBody id s = .error (.raised .unsupported) := if_pos hblock
    exact runCommand_raised he hbody
  · have hblock : ¬ (id = 12#4 ∨ id = 13#4) := by rintro (rfl | rfl) <;> simp at hid
    have hnone : fmtTable[id.toNat]? = none := List.getElem?_eq_none (show 12 ≤ id.toNat by omega)
    have hbody : setfmtidBody id s = .error (.raised .config) := by rw [setfmtidBody, if_neg hblock, hnone, raise_eq]
    exact runCommand_raised he hbody

/-! ### A colour through a descriptor (R197) -/

/-- A field between higher and lower ones. -/
theorem field_between {hi x lo m n : Nat} (hx : x < 2 ^ n) (hlo : lo < 2 ^ m) :
    (hi * 2 ^ (m + n) + x * 2 ^ m + lo) / 2 ^ m % 2 ^ n = x := by
  have hsum : hi * 2 ^ (m + n) + x * 2 ^ m + lo = (x + 2 ^ n * hi) * 2 ^ m + lo := by rw [pow_add]; ring
  rw [hsum, Nat.add_comm, Nat.add_mul_div_right _ _ (Nat.two_pow_pos m), Nat.div_eq_of_lt hlo, Nat.zero_add,
    Nat.add_mul_mod_self_left, Nat.mod_eq_of_lt hx]

/-- Each of four fields side by side is found at its place. -/
theorem four_fields_at {x₀ x₁ x₂ x₃ n₀ n₁ n₂ n₃ v : Nat} (h₀ : x₀ < 2 ^ n₀) (h₁ : x₁ < 2 ^ n₁) (h₂ : x₂ < 2 ^ n₂)
    (h₃ : x₃ < 2 ^ n₃)
    (hv : v = x₃ * 2 ^ (n₀ + n₁ + n₂) + (x₂ * 2 ^ (n₀ + n₁) + (x₁ * 2 ^ n₀ + x₀))) :
    v / 2 ^ 0 % 2 ^ n₀ = x₀ ∧ v / 2 ^ n₀ % 2 ^ n₁ = x₁ ∧ v / 2 ^ (n₀ + n₁) % 2 ^ n₂ = x₂ ∧
      v / 2 ^ (n₀ + n₁ + n₂) % 2 ^ n₃ = x₃ := by
  obtain ⟨-, l₁⟩ := shiftLeft_or_of_lt h₁ h₀
  obtain ⟨-, l₂⟩ := shiftLeft_or_of_lt h₂ l₁
  refine ⟨?_, ?_, ?_, ?_⟩
  · rw [← field_between (hi := x₃ * 2 ^ (n₁ + n₂) + x₂ * 2 ^ n₁ + x₁) h₀ (Nat.two_pow_pos 0), hv]
    congr 2
    simp only [pow_add]
    ring
  · rw [← field_between (hi := x₃ * 2 ^ n₂ + x₂) h₁ h₀, hv]
    congr 2
    simp only [pow_add]
    ring
  · rw [← field_between (hi := x₃) h₂ l₁, hv]
    congr 2
    ring
  · rw [← field_between (hi := 0) h₃ l₂, hv, Nat.zero_mul, Nat.zero_add]

theorem encodeUnit_rgba_fields (w c : Word) :
    encodeUnit .rgba w c / 2 ^ (shifts w).r % 2 ^ depth w 0 = requant (bitsOf c 16 8) 8 (depth w 0) ∧
      encodeUnit .rgba w c / 2 ^ (shifts w).g % 2 ^ depth w 1 = requant (bitsOf c 8 8) 8 (depth w 1) ∧
      encodeUnit .rgba w c / 2 ^ (shifts w).b % 2 ^ depth w 2 = requant (bitsOf c 0 8) 8 (depth w 2) ∧
      encodeUnit .rgba w c / 2 ^ (shifts w).a % 2 ^ depth w 3 = requant (bitsOf c 24 8) 8 (depth w 3) := by
  obtain ⟨hsum, -⟩ := encodeUnit_rgba w c
  have hr := requant_channel_lt c 16 (depth w 0)
  have hg := requant_channel_lt c 8 (depth w 1)
  have hb := requant_channel_lt c 0 (depth w 2)
  have ha := requant_channel_lt c 24 (depth w 3)
  rw [shifts_r, shifts_g, shifts_b, shifts_a] at *
  split_ifs at *
  case pos => exact four_fields_at hr hg hb ha (by rw [hsum]; ring)
  case neg =>
    obtain ⟨fa, fb, fg, fr⟩ := four_fields_at ha hb hg hr (hsum.trans (by ring))
    exact ⟨fr, fg, fb, fa⟩

/-- The two fields of an LA or HL unit. -/
theorem two_fields_at {hi lo n m : Nat} (hhi : hi < 2 ^ n) (hlo : lo < 2 ^ m) :
    (hi * 2 ^ m + lo) / 2 ^ m % 2 ^ n = hi ∧ (hi * 2 ^ m + lo) / 2 ^ 0 % 2 ^ m = lo := by
  constructor
  · simpa using field_between (hi := 0) hhi hlo
  · simpa using field_between (hi := hi) hlo (Nat.two_pow_pos 0)

/-- A channel comes back through the field that holds it. -/
theorem through_unitField {absent c v lo d : Nat} (hc : c < 2 ^ 8) (hv : v / 2 ^ lo % 2 ^ d = requant c 8 d) :
    Through absent c (unitField absent v lo d) d := by
  have hthrough : unitField absent v lo d = throughDepth absent c d := by rw [unitField, throughDepth, hv]
  refine ⟨hthrough, fun h8 => ?_⟩
  rw [hthrough, throughDepth, if_neg (by omega), requant_requant_of_le hc h8]

/-- Settles O26: each channel's field of the encoded unit holds the channel requantized. -/
theorem colourThroughADescriptor : Obligations.ColourThroughADescriptor := by
  unfold Obligations.ColourThroughADescriptor
  intro w c l _ _
  have hchannel := bitsOf_lt c
  dsimp only
  cases l with
  | rgba =>
    obtain ⟨fr, fg, fb, fa⟩ := encodeUnit_rgba_fields w c
    obtain ⟨ha, hr, hg, hb⟩ := isColour_decodeUnit_rgba w (encodeUnit .rgba w c)
    dsimp only
    rw [ha, hr, hg, hb]
    exact ⟨through_unitField (hchannel 16 8) fr, through_unitField (hchannel 8 8) fg, through_unitField (hchannel 0 8) fb,
      through_unitField (hchannel 24 8) fa⟩
  | la =>
    obtain ⟨hhigh, hlow⟩ := two_fields_at (requant_channel_lt c 16 (depth w 0)) (requant_channel_lt c 24 (depth w 3))
    rw [← encodeUnit_la] at hhigh hlow
    obtain ⟨ha, hr, hg, hb⟩ := isColour_decodeUnit_la w (encodeUnit .la w c)
    dsimp only
    rw [ha, hr, hg, hb, highField_eq, lowField_eq]
    exact ⟨through_unitField (hchannel 16 8) hhigh, rfl, rfl, through_unitField (hchannel 24 8) hlow⟩
  | hl =>
    obtain ⟨hhigh, hlow⟩ := two_fields_at (requant_channel_lt c 16 (depth w 0)) (requant_channel_lt c 8 (depth w 3))
    rw [← encodeUnit_hl] at hhigh hlow
    obtain ⟨ha, hr, hg, hb⟩ := isColour_decodeUnit_hl w (encodeUnit .hl w c)
    dsimp only
    rw [ha, hr, hg, hb, highField_eq, lowField_eq]
    exact ⟨through_unitField (hchannel 16 8) hhigh, through_unitField (hchannel 8 8) hlow, rfl, rfl⟩

/-- Settles O27: a unit is its fields side by side, and each field survives its channel. -/
theorem encodeUndoesDecode : Obligations.EncodeUndoesDecode := by
  unfold Obligations.EncodeUndoesDecode
  exact fun _ _ _ _ _ hd hv => encodeUnit_decodeUnit hd hv

end Sys2Proof.Machine
end

section
/-! DECPIX and ENCPIX where they take and give a unit (43_pixel_codec.md R188, R189, R195, R196). -/

namespace Sys2Proof.Machine

open Sys2Proof.Claims

/-! ### DECPIX (R195) -/

theorem unitSize_rgba_pos (w : Word) : 0 < unitSize .rgba w := by
  rw [unitSize_rgba, unitBytes]
  split_ifs <;> decide

theorem ne_rgba_of_isNibble {l : Layout} {w : Word} (hn : isNibble l w = true) : l ≠ .rgba := by
  rintro rfl
  cases hn

/-- With a whole unit before IN_LEN, every family's DECPIX of whole bytes pulls it. -/
theorem decpixBody_bytes {s : State} {l : Layout} (hv : s.status.fmtValid = true) (hl : layoutOf s.fmt = some l)
    (hn : isNibble l s.fmt = false) (hfit : s.inPos.toNat + unitSize l s.fmt ≤ s.inLen.toNat) :
    decpixBody s = .ok (deliverPixel (decodeUnit l s.fmt (readUnit s s.fmt (unitSize l s.fmt)))
      (advanceIn s (unitSize l s.fmt))) := by
  have hin : inShort s (unitSize l s.fmt) = false := by simpa [inShort] using hfit
  have hbytes : decpixBody s = decodeBytes l s := by
    by_cases hlh : l = .rgba
    · subst hlh
      have hpos := unitSize_rgba_pos s.fmt
      rw [decpixBody_rgba hv hl, if_neg (by omega)]
    · rw [decpixBody_lh hv hl hlh, decodeLh, hn, if_neg Bool.false_ne_true]
  simp only [hbytes, decodeBytes, hin, Bool.false_eq_true, if_false]

/-- Settles O28: the unit's bytes in FMT's order are the weighted sum. -/
theorem decpixDecodesTheNextUnit : Obligations.DecpixDecodesTheNextUnit := by
  unfold Obligations.DecpixDecodesTheNextUnit
  intro s l he hv hl hn hfit
  rw [← orderedValue_readBytes, ← add_ofNat_eq]
  exact runCommand_ok he (decpixBody_bytes hv hl hn hfit)

theorem decpixBody_nibble {s t : State} {l : Layout} {v : BitVec 4} (hv : s.status.fmtValid = true)
    (hl : layoutOf s.fmt = some l) (hn : isNibble l s.fmt = true) (hget : nibGet s = .ok (v, t)) :
    decpixBody s = .ok (deliverPixel (decodeUnit l s.fmt v.toNat) t) := by
  rw [decpixBody_lh hv hl (ne_rgba_of_isNibble hn), decodeLh, hn, if_pos rfl, hget]

theorem nibGet_pending {s : State} (hp : s.status.nibrPend = true) :
    nibGet s = .ok (s.nibr, { s with status := { s.status with nibrPend := false } }) := by
  simp [nibGet, hp]

/-- The next byte's low nibble is given and its high nibble kept. -/
theorem nibGet_next {s : State} (hp : s.status.nibrPend = false) (hfit : s.inPos.toNat + 1 ≤ s.inLen.toNat) :
    nibGet s = .ok (BitVec.ofNat 4 (readByte s .inp s.inPos.toNat).toNat,
      { s with
        inPos := BitVec.ofNat 32 (s.inPos.toNat + 1)
        nibr := BitVec.ofNat 4 ((readByte s .inp s.inPos.toNat).toNat / 16)
        status := { s.status with nibrPend := true } }) := by
  have hin : inShort s 1 = false := by simpa [inShort] using hfit
  have hnibble : ∀ (b : Byte) (k : Nat), b.extractLsb' k 4 = BitVec.ofNat 4 (b.toNat / 2 ^ k) := fun b k =>
    BitVec.eq_of_toNat_eq (by rw [BitVec.extractLsb'_toNat, BitVec.toNat_ofNat, Nat.shiftRight_eq_div_pow])
  simp only [nibGet, hp, hin, Bool.false_eq_true, if_false, hnibble, Nat.pow_zero, Nat.div_one, ← add_ofNat_eq]
  rfl

/-- Settles O29: what the 4-bit decoder gives, in its two cases. -/
theorem decpixTakesNibblesLowFirst : Obligations.DecpixTakesNibblesLowFirst := by
  unfold Obligations.DecpixTakesNibblesLowFirst
  refine fun s l he hv hl hn => ⟨fun hp => ?_, fun hp hfit => ?_⟩
  · exact runCommand_ok he (decpixBody_nibble hv hl hn (nibGet_pending hp))
  · have hbody := decpixBody_nibble hv hl hn (nibGet_next hp hfit)
    rw [BitVec.toNat_ofNat] at hbody
    exact runCommand_ok he hbody

/-! ### ENCPIX (R196) -/

theorem encpixBody_eq {s : State} {l : Layout} (hv : s.status.fmtValid = true) (hl : layoutOf s.fmt = some l) :
    encpixBody s = encodeColour l s := by
  simp [encpixBody, hv, hl]

theorem encodeColour_nibble {s : State} {l : Layout} (hn : isNibble l s.fmt = true) :
    encodeColour l s = nibPut (BitVec.ofNat 4 (encodeUnit l s.fmt s.arg0)) s := by
  simp [encodeColour, hn]

theorem encodeColour_full {s : State} {l : Layout} (hn : isNibble l s.fmt = false)
    (hfull : s.params.outSize < s.outLen.toNat + unitSize l s.fmt) : encodeColour l s = .error (.raised .capacity) := by
  simp [encodeColour, hn, (outOverflows_iff s _).2 hfull]

theorem encodeColour_bytes {s : State} {l : Layout} (hn : isNibble l s.fmt = false)
    (hfit : s.outLen.toNat + unitSize l s.fmt ≤ s.params.outSize) :
    encodeColour l s =
      .ok (appendOut s (orderedBytes (fmtBe s.fmt) (encodeUnit l s.fmt s.arg0) (unitSize l s.fmt))) := by
  have hroom : outOverflows s (unitSize l s.fmt) = false := by simpa [outOverflows] using hfit
  simp [encodeColour, hn, hroom]

/-- Settles O31: the encoded unit's bytes appended to OUT. -/
theorem encpixAppendsTheUnit : Obligations.EncpixAppendsTheUnit := by
  unfold Obligations.EncpixAppendsTheUnit
  intro s l he hv hl hn hfit
  exact ⟨_, runCommand_ok he ((encpixBody_eq hv hl).trans (encodeColour_bytes hn hfit)), appendOut_orderedBytes s ..⟩

/-- A unit fits the bits of its family. -/
theorem encodeUnit_lt (l : Layout) (w c : Word) : encodeUnit l w c < 2 ^ unitBits l w := by
  have hbits : unitBits .la w = depth w 3 + depth w 0 ∧ unitBits .hl w = depth w 3 + depth w 0 :=
    ⟨Nat.add_comm _ _, Nat.add_comm _ _⟩
  cases l with
  | rgba => exact (encodeUnit_rgba w c).2
  | la =>
    rw [encodeUnit_la, hbits.1]
    exact (shiftLeft_or_of_lt (requant_channel_lt ..) (requant_channel_lt ..)).2
  | hl =>
    rw [encodeUnit_hl, hbits.2]
    exact (shiftLeft_or_of_lt (requant_channel_lt ..) (requant_channel_lt ..)).2

/-- Settles O32: the unit is a nibble, and the nibble packer takes it. -/
theorem encpixPacksNibbles : Obligations.EncpixPacksNibbles := by
  unfold Obligations.EncpixPacksNibbles
  intro s l he hv hl hn
  have hbody := (encpixBody_eq hv hl).trans (encodeColour_nibble hn)
  have hlt : encodeUnit l s.fmt s.arg0 < 16 := by
    have hbits := (isNibble_iff (ne_rgba_of_isNibble hn) s.fmt).1 hn
    simpa [hbits] using encodeUnit_lt l s.fmt s.arg0
  refine ⟨hlt, fun hp => runCommand_ok he (hbody.trans (nibPut_first _ hp)), fun hp hfit => ?_⟩
  obtain ⟨t, hput, ht⟩ := nibPut_second hlt hp hfit
  exact ⟨t, runCommand_ok he (hbody.trans hput), ht⟩

end Sys2Proof.Machine
end

section
/-! The tile address function (44_tile_engine.md R240 to R246): its fold as an XOR of the selected entries, and regular tables,
whose entries are the single bits of the tile's coordinates. -/

namespace Sys2Proof.Machine

open Sys2Proof.Claims

/-! ### The fold, in closed form (R240, R242) -/

theorem foldl_or_eq (f : Nat × Nat → Nat) (tbl : List (Nat × Nat)) (v : Nat) :
    tbl.foldl (fun a e => a ||| f e) v = v ||| tbl.foldr (fun e a => f e ||| a) 0 := by
  induction tbl generalizing v with
  | nil => simp
  | cons e tbl ih => rw [List.foldl_cons, ih, List.foldr_cons, Nat.or_assoc]

theorem tileW_eq (tbl : List (Nat × Nat)) : tileW tbl = tbl.foldr (fun e a => e.1 ||| a) 0 + 1 := by
  rw [tileW, foldl_or_eq Prod.fst, Nat.zero_or]

theorem tileH_eq (tbl : List (Nat × Nat)) : tileH tbl = tbl.foldr (fun e a => e.2 ||| a) 0 + 1 := by
  rw [tileH, foldl_or_eq Prod.snd, Nat.zero_or]

/-- The entries of a table whose bit of n is set, the first entry's bit being bit j. -/
def chosenEntries (tbl : List (Nat × Nat)) (j n : Nat) : List (Nat × Nat) :=
  ((tbl.zipIdx j).filter fun e => n.testBit e.2).map Prod.fst

theorem chosenEntries_cons (e : Nat × Nat) (tbl : List (Nat × Nat)) (j n : Nat) :
    chosenEntries (e :: tbl) j n = (if n.testBit j then [e] else []) ++ chosenEntries tbl (j + 1) n := by
  unfold chosenEntries
  rw [List.zipIdx_cons, List.filter_cons]
  split_ifs <;> simp

/-- The fold XORs in the chosen entries, coordinate by coordinate. -/
theorem foldOffsets_eq (tbl : List (Nat × Nat)) (j n : Nat) (acc : Nat × Nat) :
    foldOffsets tbl j n acc =
      ((chosenEntries tbl j n).foldl (fun a e => a ^^^ e.1) acc.1, (chosenEntries tbl j n).foldl (fun a e => a ^^^ e.2) acc.2) := by
  induction tbl generalizing j acc with
  | nil => rfl
  | cons e tbl ih =>
    rw [foldOffsets_cons, ih, chosenEntries_cons]
    split_ifs <;> simp

/-- Settles O34: both folds, one after the other, over the entries they choose. -/
theorem addressFoldsTheSelectedEntries : Obligations.AddressFoldsTheSelectedEntries := by
  unfold Obligations.AddressFoldsTheSelectedEntries
  intro tbl rt o stride n
  dsimp only
  rw [← tileW_eq, ← tileH_eq]
  refine ⟨rfl, rfl, rfl, ?_⟩
  rw [List.map_append, List.foldl_append, List.foldl_append]
  simp only [addrWith, foldOffsets_eq]
  rfl

/-! ### Registers that hold a table (10_state R44 to R46) -/

theorem entryOf_eq_halves : entryOf = halves := by
  funext w
  rw [entryOf, halves, field_eq_bitsOf, field_eq_bitsOf]

theorem finRange_filter_lt (n k : Nat) : (List.finRange n).filter (fun j => j.val < k) = (List.finRange n).take k := by
  induction n generalizing k with
  | zero => simp
  | succ n ih =>
    cases k with
    | zero => simp
    | succ k => simp [List.finRange_succ, List.filter_map, Function.comp_def, ih, List.map_take]

theorem filterMap_ite {α β : Type} (p : α → Prop) [DecidablePred p] (f : α → β) (l : List α) :
    l.filterMap (fun a => if p a then some (f a) else none) = (l.filter p).map f := by
  induction l with
  | nil => rfl
  | cons a l ih => by_cases h : p a <;> simp [h, ih]

theorem entriesOf_eq (regs : Vector Word 16) (k : Nat) : entriesOf regs k = (regs.toList.take k).map halves := by
  have hregs : regs.toList = (List.finRange 16).map fun j => regs[j] := by
    refine List.ext_getElem (by simp) fun i h _ => ?_
    simp
  rw [entriesOf, entryOf_eq_halves, hregs, ← List.map_take, ← finRange_filter_lt, List.map_map, filterMap_ite]
  rfl

theorem registerAddress_eq_addrReg (s : State) (n : Nat) : registerAddress s n = addrReg s n := by
  rw [registerAddress, addrReg, entriesOf_eq, entriesOf_eq, entryOf_eq_halves]
  rfl

theorem tileOk_iff (s : State) :
    tileOk s = true ↔ (1 ≤ s.tileK.toNat ∧ s.tileK.toNat ≤ 16) ∧ s.tileRk.toNat ≤ 16 ∧ s.tileStride ≠ 0#32 := by
  simp [tileOk, and_assoc]

/-- The descriptors that `checkTile` refuses (R241). -/
theorem not_tileOk {s : State}
    (h : s.tileK.toNat = 0 ∨ 16 < s.tileK.toNat ∨ 16 < s.tileRk.toNat ∨ s.tileStride = 0#32) : ¬ tileOk s = true := by
  rw [tileOk_iff]
  rintro ⟨hk, hrk, hstride⟩
  obtain h | h | h | h := h
  · omega
  · omega
  · omega
  · exact hstride h

/-- Settles O33: TADDR's body computes the address of the entries read by their bits. -/
theorem taddrReportsTheAddress : Obligations.TaddrReportsTheAddress := by
  unfold Obligations.TaddrReportsTheAddress
  refine fun s he => ⟨fun hk hrk hstride => ?_, fun hbad => ?_⟩
  · rw [registerAddress_eq_addrReg]
    exact runCommand_ok he (if_pos ((tileOk_iff s).2 ⟨hk, hrk, hstride⟩))
  · have hbody : taddrBody s = .error (.raised .config) := if_neg (not_tileOk hbad)
    exact runCommand_raised he hbody

/-! ### Regular tables (R245) -/

/-- An entry that is one bit of one coordinate, below 2^a and 2^b. -/
def UnitEntry (a b : Nat) (e : Nat × Nat) : Prop := (∃ i < a, e = (2 ^ i, 0)) ∨ ∃ i < b, e = (0, 2 ^ i)

theorem regular_mem_iff {tbl : List (Nat × Nat)} {a b : Nat} (h : Regular tbl a b) (e : Nat × Nat) :
    e ∈ tbl ↔ UnitEntry a b e := by
  rw [h.mem_iff]
  simp [UnitEntry, eq_comm]

theorem regular_nodup {tbl : List (Nat × Nat)} {a b : Nat} (h : Regular tbl a b) : tbl.Nodup := by
  refine h.nodup_iff.2 (List.Nodup.append ?_ ?_ ?_)
  · exact List.nodup_range.map fun i k hik => Nat.pow_right_injective le_rfl (Prod.mk.inj hik).1
  · exact List.nodup_range.map fun i k hik => Nat.pow_right_injective le_rfl (Prod.mk.inj hik).2
  · intro e hx hy
    obtain ⟨i, -, rfl⟩ := List.mem_map.1 hx
    obtain ⟨k, -, hk⟩ := List.mem_map.1 hy
    exact absurd (Prod.mk.inj hk).1.symm (Nat.two_pow_pos i).ne'

theorem regular_length {tbl : List (Nat × Nat)} {a b : Nat} (h : Regular tbl a b) : tbl.length = a + b := by
  simpa using h.length_eq

theorem regular_tile {tbl : List (Nat × Nat)} {a b : Nat} (h : Regular tbl a b) : tileW tbl = 2 ^ a ∧ tileH tbl = 2 ^ b := by
  have hx : tbl.foldl (fun v e => v ||| e.1) 0 = 2 ^ a - 1 := by
    rw [h.foldl_eq' (fun _ _ _ _ _ => Nat.or_right_comm _ _ _)]
    simp [List.foldl_append, List.foldl_map, foldl_or_two_pow_range]
  have hy : tbl.foldl (fun v e => v ||| e.2) 0 = 2 ^ b - 1 := by
    rw [h.foldl_eq' (fun _ _ _ _ _ => Nat.or_right_comm _ _ _)]
    simp [List.foldl_append, List.foldl_map, foldl_or_two_pow_range]
  have ha := Nat.two_pow_pos a
  have hb := Nat.two_pow_pos b
  rw [tileW, tileH, hx, hy]
  omega

/-- Entries inside the tile keep the fold inside it. -/
theorem foldOffsets_lt {tbl : List (Nat × Nat)} {a b : Nat} (htbl : ∀ e ∈ tbl, e.1 < 2 ^ a ∧ e.2 < 2 ^ b) (j n : Nat)
    {acc : Nat × Nat} (hacc : acc.1 < 2 ^ a ∧ acc.2 < 2 ^ b) :
    (foldOffsets tbl j n acc).1 < 2 ^ a ∧ (foldOffsets tbl j n acc).2 < 2 ^ b := by
  induction tbl generalizing j acc with
  | nil => exact hacc
  | cons e tbl ih =>
    obtain ⟨⟨hx, hy⟩, hrest⟩ := List.forall_mem_cons.1 htbl
    rw [foldOffsets_cons]
    refine ih hrest (j + 1) ?_
    split
    · exact ⟨Nat.xor_lt_two_pow hacc.1 hx, Nat.xor_lt_two_pow hacc.2 hy⟩
    · exact hacc

theorem UnitEntry.lt {a b : Nat} {e : Nat × Nat} (h : UnitEntry a b e) : e.1 < 2 ^ a ∧ e.2 < 2 ^ b := by
  obtain ⟨i, hi, rfl⟩ | ⟨i, hi, rfl⟩ := h
  · exact ⟨Nat.pow_lt_pow_right Nat.one_lt_two hi, Nat.two_pow_pos b⟩
  · exact ⟨Nat.two_pow_pos a, Nat.pow_lt_pow_right Nat.one_lt_two hi⟩

/-- The fold over the same bits is one-to-one in where it starts. -/
theorem foldOffsets_injective (tbl : List (Nat × Nat)) (j n : Nat) : Function.Injective (foldOffsets tbl j n) := by
  induction tbl generalizing j with
  | nil => exact fun _ _ h => h
  | cons e tbl ih =>
    intro acc acc' h
    have hacc := ih (j + 1) h
    split at hacc
    · obtain ⟨hx, hy⟩ := Prod.mk.inj hacc
      exact Prod.ext (Nat.xor_left_inj.1 hx) (Nat.xor_left_inj.1 hy)
    · exact hacc

/-- XOR-ing in values without bit i keeps bit i. -/
theorem testBit_foldl_xor (f : Nat × Nat → Nat) (i : Nat) {es : List (Nat × Nat)} (h : ∀ e ∈ es, (f e).testBit i = false)
    (v : Nat) : (es.foldl (fun a e => a ^^^ f e) v).testBit i = v.testBit i := by
  induction es generalizing v with
  | nil => rfl
  | cons e es ih =>
    obtain ⟨he, hrest⟩ := List.forall_mem_cons.1 h
    rw [List.foldl_cons, ih hrest, Nat.testBit_xor, he, Bool.xor_false]

theorem mem_of_mem_chosenEntries {tbl : List (Nat × Nat)} {j n : Nat} {e : Nat × Nat} (h : e ∈ chosenEntries tbl j n) :
    e ∈ tbl := by
  obtain ⟨⟨e', k⟩, hmem, rfl⟩ := List.mem_map.1 h
  exact (List.mem_zipIdx (List.mem_filter.1 hmem).1).2.2 ▸ List.getElem_mem _

theorem testBit_two_pow_xor_ne (v i : Nat) : (v ^^^ 2 ^ i).testBit i ≠ v.testBit i := by
  simp [Nat.testBit_xor]

/-- A single bit that the other entries lack is not lost: the folds with it and without it differ. -/
theorem foldOffsets_xor_unit_ne {tbl : List (Nat × Nat)} {a b : Nat} {e : Nat × Nat} (he : UnitEntry a b e) (hnot : e ∉ tbl)
    (htbl : ∀ e' ∈ tbl, UnitEntry a b e') (j n n' : Nat) (acc : Nat × Nat) :
    foldOffsets tbl j n (acc.1 ^^^ e.1, acc.2 ^^^ e.2) ≠ foldOffsets tbl j n' acc := by
  intro h
  rw [foldOffsets_eq, foldOffsets_eq] at h
  obtain ⟨hx, hy⟩ := Prod.mk.inj h
  obtain ⟨i, -, rfl⟩ | ⟨i, -, rfl⟩ := he
  · have hlack : ∀ m, ∀ e' ∈ chosenEntries tbl j m, e'.1.testBit i = false := by
      intro m e' he'
      have hmem := mem_of_mem_chosenEntries he'
      obtain ⟨k, -, rfl⟩ | ⟨k, -, rfl⟩ := htbl e' hmem
      · exact Nat.testBit_two_pow_of_ne (by rintro rfl; exact hnot hmem)
      · exact Nat.zero_testBit i
    have hbit := congrArg (·.testBit i) hx
    simp only [testBit_foldl_xor Prod.fst i (hlack _)] at hbit
    exact testBit_two_pow_xor_ne acc.1 i hbit
  · have hlack : ∀ m, ∀ e' ∈ chosenEntries tbl j m, e'.2.testBit i = false := by
      intro m e' he'
      have hmem := mem_of_mem_chosenEntries he'
      obtain ⟨k, -, rfl⟩ | ⟨k, -, rfl⟩ := htbl e' hmem
      · exact Nat.zero_testBit i
      · exact Nat.testBit_two_pow_of_ne (by rintro rfl; exact hnot hmem)
    have hbit := congrArg (·.testBit i) hy
    simp only [testBit_foldl_xor Prod.snd i (hlack _)] at hbit
    exact testBit_two_pow_xor_ne acc.2 i hbit

/-- Different single bits: the fold tells every bit of the index that selects an entry. -/
theorem testBit_eq_of_foldOffsets_eq {tbl : List (Nat × Nat)} {a b : Nat} (hnodup : tbl.Nodup)
    (htbl : ∀ e ∈ tbl, UnitEntry a b e) {j n n' : Nat} {acc : Nat × Nat}
    (h : foldOffsets tbl j n acc = foldOffsets tbl j n' acc) {k : Nat} (hjk : j ≤ k) (hk : k < j + tbl.length) :
    n.testBit k = n'.testBit k := by
  induction tbl generalizing j acc with
  | nil => exact absurd hk (by simpa using hjk)
  | cons e tbl ih =>
    obtain ⟨hnot, hnodup⟩ := List.nodup_cons.1 hnodup
    obtain ⟨he, hrest⟩ := List.forall_mem_cons.1 htbl
    have hbit : n.testBit j = n'.testBit j := by
      rw [foldOffsets_cons, foldOffsets_cons] at h
      cases hn : n.testBit j <;> cases hn' : n'.testBit j
      · rfl
      · rw [hn, hn'] at h
        exact absurd h.symm (foldOffsets_xor_unit_ne he hnot hrest _ _ _ _)
      · rw [hn, hn'] at h
        exact absurd h (foldOffsets_xor_unit_ne he hnot hrest _ _ _ _)
      · rfl
    obtain rfl | hlt := hjk.eq_or_lt
    · exact hbit
    · rw [foldOffsets_cons, foldOffsets_cons, hbit] at h
      rw [List.length_cons] at hk
      exact ih hnodup hrest h hlt (by omega)

theorem eq_of_foldOffsets_eq {tbl : List (Nat × Nat)} {a b : Nat} (hreg : Regular tbl a b) {n n' : Nat} {acc : Nat × Nat}
    (hn : n < 2 ^ (a + b)) (hn' : n' < 2 ^ (a + b)) (h : foldOffsets tbl 0 n acc = foldOffsets tbl 0 n' acc) : n = n' := by
  refine Nat.eq_of_testBit_eq fun k => ?_
  by_cases hk : k < a + b
  · exact testBit_eq_of_foldOffsets_eq (regular_nodup hreg) (fun e he => (regular_mem_iff hreg e).1 he) h (Nat.zero_le k)
      (by rw [regular_length hreg]; omega)
  · have hle : 2 ^ (a + b) ≤ 2 ^ k := Nat.pow_le_pow_right Nat.two_pos (by omega)
    rw [Nat.testBit_lt_two_pow (hn.trans_le hle), Nat.testBit_lt_two_pow (hn'.trans_le hle)]

/-- Adding an offset below 2^m to a multiple of 2^m is XOR-ing it in. -/
theorem mul_two_pow_add_eq_xor {y m : Nat} (x : Nat) (hy : y < 2 ^ m) : x * 2 ^ m + y = x * 2 ^ m ^^^ y := by
  refine Nat.eq_of_testBit_eq fun i => ?_
  rw [Nat.mul_comm, Nat.testBit_two_pow_mul_add x hy, Nat.testBit_xor, Nat.testBit_two_pow_mul]
  split_ifs with hi
  · simp [hi.not_ge]
  · have hle : m ≤ i := Nat.le_of_not_lt hi
    simp [hle, Nat.testBit_lt_two_pow (hy.trans_le (Nat.pow_le_pow_right Nat.two_pos hle))]

/-- Settles O36: every entry is a single bit inside the tile, and no two are the same. -/
theorem regularTableOffsetsFillTheTile : Obligations.RegularTableOffsetsFillTheTile := by
  unfold Obligations.RegularTableOffsetsFillTheTile
  intro tbl rt a b o stride hreg hox hoy hrt _
  obtain ⟨hw, hh⟩ := regular_tile hreg
  have hin : ∀ n my, (foldOffsets rt 0 my (foldOffsets tbl 0 n o)).1 < 2 ^ a ∧
      (foldOffsets rt 0 my (foldOffsets tbl 0 n o)).2 < 2 ^ b := fun n my =>
    foldOffsets_lt hrt 0 my (foldOffsets_lt (fun e he => ((regular_mem_iff hreg e).1 he).lt) 0 n ⟨hox, hoy⟩)
  refine ⟨hw, hh, hin, fun n n' my hn hn' h => eq_of_foldOffsets_eq hreg hn hn' (foldOffsets_injective rt 0 my h), ?_⟩
  intro n
  dsimp only
  obtain ⟨hx, hy⟩ := hin n (n / 2 ^ (a + b) / tilesPerRow tbl stride)
  rw [← mul_two_pow_add_eq_xor _ hx, ← mul_two_pow_add_eq_xor _ hy, addrWith, hw, hh, ← pow_add]

end Sys2Proof.Machine
end

section
/-! The 3DS specialization (45_tile_3ds.md R260 to R267): SET3DS, T3DS, and the images that `addr3ds` covers. -/

namespace Sys2Proof.Machine

open Sys2Proof.Claims

/-! ### Orientation (R262, R263) -/

theorem orient_eq_orientBy (o : Orient) (p : Nat × Nat) (he : Nat) : orient o p he = orientBy o.code.toNat p he := by
  cases o <;> rfl

theorem stride3ds_eq (o : Orient) (we he : Nat) :
    stride3ds o we he = if o = .identity ∨ o = .flipVertical then we else he := by
  cases o <;> rfl

theorem stride3ds_eq_by_code (o : Orient) (we he : Nat) :
    stride3ds o we he = if o.code.toNat = 0 ∨ o.code.toNat = 3 then we else he := by
  cases o <;> rfl

/-! ### SET3DS and T3DS (R265, R266) -/

theorem toList_load3dsTable (t : Vector Word 16) :
    (load3dsTable t).toList =
      [0x00000001#32, 0x00010000#32, 0x00000002#32, 0x00020000#32, 0x00000004#32, 0x00040000#32] ++ t.toList.drop 6 := by
  have hset : ∀ l : List Word, 6 ≤ l.length → ∀ a b c d e f : Word,
      (((((l.set 0 a).set 1 b).set 2 c).set 3 d).set 4 e).set 5 f = [a, b, c, d, e, f] ++ l.drop 6
    | _ :: _ :: _ :: _ :: _ :: _ :: _, _ => fun _ _ _ _ _ _ => rfl
  simp only [load3dsTable, Vector.toList_set]
  exact hset t.toList (by simp) _ _ _ _ _ _

/-- Settles O37: the body's record update, field by field. -/
theorem set3dsLoadsTheConfiguration : Obligations.Set3dsLoadsTheConfiguration := by
  unfold Obligations.Set3dsLoadsTheConfiguration
  intro s o pad he
  dsimp only
  rw [← field_eq_bitsOf, ← field_eq_bitsOf]
  refine ⟨fun hwd hht => ?_, fun hzero => ?_⟩
  · have hcfg : BitVec.ofNat 3 (o.code.toNat + if pad then 4 else 0) = BitVec.ofBool pad ++ o.code := by
      cases o <;> cases pad <;> rfl
    rw [← stride3ds_eq, hcfg]
    cases hbody : set3dsBody o pad s with
    | error stop => simp [set3dsBody, hwd, hht] at hbody
    | ok t =>
      obtain ⟨-, -, rfl⟩ := set3dsBody_ok hbody
      exact ⟨_, runCommand_ok he hbody, rfl, toList_load3dsTable s.tbl⟩
  · have hbody : set3dsBody o pad s = .error (.raised .config) := if_pos hzero
    exact runCommand_raised he hbody

/-- The orientation that a 2-bit code selects, as the code's table. -/
theorem orient_ofCode (c : BitVec 2) (p : Nat × Nat) (he : Nat) : orient (.ofCode c) p he = orientBy c.toNat p he := by
  rw [orient_eq_orientBy, code_ofCode]

/-- Settles O38: T3DS's body orients the address of the entries read by their bits. -/
theorem t3dsReportsTheOrientedAddress : Obligations.T3dsReportsTheOrientedAddress := by
  unfold Obligations.T3dsReportsTheOrientedAddress
  refine fun s he => ⟨fun hv hk hrk hstride x y hxy => ?_, fun hv => ?_, fun hv hbad => ?_⟩
  · have hcode : (s.t3dsCfg.extractLsb' 0 2).toNat = s.t3dsCfg.toNat % 4 := BitVec.extractLsb'_toNat ..
    have horient : orient (cfgOrient s) (addrReg s s.arg0.toNat) s.t3dsH.toNat =
        orientBy (s.t3dsCfg.toNat % 4) (x, y) s.t3dsH.toNat := by
      rw [cfgOrient, orient_ofCode, hcode, ← registerAddress_eq_addrReg, hxy]
    have hbody : t3dsBody s = .ok { s with
        res0 := BitVec.ofInt 32 (orientBy (s.t3dsCfg.toNat % 4) (x, y) s.t3dsH.toNat).1
        res1 := BitVec.ofInt 32 (orientBy (s.t3dsCfg.toNat % 4) (x, y) s.t3dsH.toNat).2 } := by
      rw [t3dsBody, if_pos hv, if_pos ((tileOk_iff s).2 ⟨hk, hrk, hstride⟩), horient]
    exact runCommand_ok he hbody
  · have hbody : t3dsBody s = .error (.raised .state) := by simp [t3dsBody, hv]
    exact runCommand_raised he hbody
  · have hbody : t3dsBody s = .error (.raised .config) := by
      rw [t3dsBody, if_pos hv, if_neg (not_tileOk hbad), raise_eq]
    exact runCommand_raised he hbody

/-! ### The images `addr3ds` covers (R264, R267) -/

theorem gather_three (n start : Nat) :
    gather n start 3 = n / 2 ^ start % 2 + 2 * (n / 2 ^ (2 + start) % 2) + 4 * (n / 2 ^ (4 + start) % 2) := by
  have hbit : ∀ i v, (if n.testBit i then v else 0) = v * (n / 2 ^ i % 2) := by
    intro i v
    rw [Nat.testBit_eq_decide_div_mod_eq]
    obtain h | h := Nat.mod_two_eq_zero_or_one (n / 2 ^ i) <;> simp [h]
  simp [gather, Finset.sum_range_succ, hbit]

theorem addrWith_tbl3ds (stride n : Nat) : addrWith tbl3ds [] (0, 0) stride n = base3ds stride n := by
  simp only [tbl3ds_eq_zOrder, addrWith, tilesPerRow, tileW_zOrder, tileH_zOrder, foldOffsets_nil, foldOffsets_zOrder,
    gather_three, base3ds]
  norm_num [Nat.mul_comm]

theorem addr3ds_eq (n : Nat) (o : Orient) (we he : Nat) :
    addr3ds n o we he = orientBy o.code.toNat (base3ds (if o.code.toNat = 0 ∨ o.code.toNat = 3 then we else he) n) he := by
  rw [addr3ds, orient_eq_orientBy, addrWith_tbl3ds, stride3ds_eq_by_code]

/-- An image of whole tiles: its first indices lie inside it. -/
theorem base3ds_lt {side height n : Nat} (hside : side % 8 = 0) (hheight : height % 8 = 0) (hn : n < side * height) :
    (base3ds side n).1 < side ∧ (base3ds side n).2 < height := by
  obtain ⟨p, rfl⟩ := Nat.dvd_of_mod_eq_zero hside
  obtain ⟨q, rfl⟩ := Nat.dvd_of_mod_eq_zero hheight
  have hp : 0 < p := by
    by_contra h
    simp [Nat.eq_zero_of_not_pos h] at hn
  have hperRow : (8 * p + 7) / 8 = p := by omega
  have htile : n / 64 < p * q := by
    refine Nat.div_lt_of_lt_mul (hn.trans_eq ?_)
    ring
  have hrow : n / 64 / p < q := Nat.div_lt_of_lt_mul htile
  have hcol : n / 64 % p < p := Nat.mod_lt _ hp
  simp only [base3ds, hperRow]
  omega

/-- Every index of the image has a pixel of it (R267). -/
theorem exists_pixelAt {o : Orient} {we he n : Nat} (hwe : we % 8 = 0) (hhe : he % 8 = 0) (hn : n < we * he) :
    ∃ x y, PixelAt o we he we he n x y := by
  have hn' : n < he * we := by rwa [Nat.mul_comm]
  obtain ⟨hx, hy⟩ := base3ds_lt hwe hhe hn
  obtain ⟨hx', hy'⟩ := base3ds_lt hhe hwe hn'
  unfold PixelAt
  rw [addr3ds_eq]
  cases o
  case identity => exact ⟨_, _, rfl, hx, hy⟩
  case transpose => exact ⟨_, _, rfl, hy', hx'⟩
  case rotateCcw =>
    refine ⟨(base3ds he n).2, he - 1 - (base3ds he n).1, Prod.ext rfl ?_, hy', by omega⟩
    change (he : Int) - 1 - (base3ds he n).1 = _
    omega
  case flipVertical =>
    refine ⟨(base3ds we n).1, he - 1 - (base3ds we n).2, Prod.ext rfl ?_, hx, by omega⟩
    change (he : Int) - 1 - (base3ds we n).2 = _
    omega

/-- As many indices as pixels, and no two indices at one pixel: every pixel has an index. -/
theorem exists_index {o : Orient} {we he x y : Nat} (hwe : we % 8 = 0) (hhe : he % 8 = 0) (hx : x < we) (hy : y < he) :
    ∃ n, n < we * he ∧ PixelAt o we he we he n x y := by
  have hpixel : ∀ n : Fin (we * he), ∃ p : Fin we × Fin he, addr3ds n o we he = ((p.1.val : Int), (p.2.val : Int)) := by
    intro n
    obtain ⟨x', y', haddr, hx', hy'⟩ := exists_pixelAt (o := o) hwe hhe n.isLt
    exact ⟨(⟨x', hx'⟩, ⟨y', hy'⟩), haddr⟩
  choose place hplace using hpixel
  have hinj : Function.Injective place := fun n n' h =>
    Fin.ext (addr3ds_injective o we he ((hplace n).trans (h ▸ (hplace n').symm)))
  have hsurj : Function.Surjective place := ((Fintype.bijective_iff_injective_and_card place).2 ⟨hinj, by simp⟩).2
  obtain ⟨n, hn⟩ := hsurj (⟨x, hx⟩, ⟨y, hy⟩)
  have haddr := hplace n
  rw [hn] at haddr
  exact ⟨n, n.isLt, haddr, hx, hy⟩

/-- Settles O40: the codes, the closed form, and the bijection. -/
theorem addr3dsCoversTheImage : Obligations.Addr3dsCoversTheImage := by
  unfold Obligations.Addr3dsCoversTheImage
  refine ⟨by decide, fun o we he n => addr3ds_eq n o we he, fun o we he hwe hhe => ?_⟩
  exact ⟨fun n hn => exists_pixelAt hwe hhe hn, fun n n' _ _ h => addr3ds_injective o we he h,
    fun x y hx hy => exists_index hwe hhe hx hy⟩

end Sys2Proof.Machine
end

section
/-! LOAD's checks of a header (46_container.md R280, R281, R284, 60_exceptions.md R322). -/

namespace Sys2Proof.Machine

open Sys2Proof.Claims

/-! ### The header's fields (R280, R281) -/

theorem toInt_eq_signed {n : Nat} (hn : 0 < n) (v : BitVec n) : v.toInt = signed v.toNat n := by
  have hpow : 2 ^ n = 2 * 2 ^ (n - 1) := by rw [← pow_succ', Nat.sub_add_cancel hn]
  rw [BitVec.toInt_eq_toNat_cond, signed]
  split_ifs
  · rfl
  · omega
  · omega
  · norm_num

theorem headerOf_eq (hdr : Vector Word 8) :
    headerOf hdr = ⟨signed hdr[1].toNat 32, signed hdr[3].toNat 32, signed (bitsOf hdr[4] 0 16) 16,
      signed (bitsOf hdr[4] 16 16) 16⟩ := by
  simp only [headerOf, toInt_eq_signed (by decide : 0 < 32), toInt_eq_signed (by decide : 0 < 16), ← field_eq_bitsOf, field]

theorem inHeader_getElem (s : State) (k : Fin 8) : (inHeader s)[k] = BitVec.ofNat 32 (streamValue s false (4 * k.val) 4) := by
  simp [inHeader, streamValue_eq_leValue]

theorem inHeader_toNat (s : State) (k : Fin 8) : (inHeader s)[k].toNat = streamValue s false (4 * k.val) 4 := by
  rw [inHeader_getElem, BitVec.toNat_ofNat, Nat.mod_eq_of_lt (streamValue_lt s false _ 4)]

/-- A little-endian word is its two halfwords. -/
theorem streamValue_four (s : State) (a : Nat) :
    streamValue s false a 4 = streamValue s false a 2 + 2 ^ 16 * streamValue s false (a + 2) 2 := by
  simp only [streamValue, Finset.sum_range_succ, Finset.sum_range_zero, Bool.false_eq_true, if_false]
  ring

theorem bitsOf_inHeader_four (s : State) :
    bitsOf (inHeader s)[4] 0 16 = streamValue s false 16 2 ∧ bitsOf (inHeader s)[4] 16 16 = streamValue s false 18 2 := by
  have hword : (inHeader s)[4].toNat = streamValue s false 16 2 + 2 ^ 16 * streamValue s false 18 2 :=
    (inHeader_toNat s 4).trans (streamValue_four s 16)
  have hlow := streamValue_lt s false 16 2
  have hhigh := streamValue_lt s false 18 2
  unfold bitsOf
  omega

theorem headerOf_inHeader (s : State) :
    headerOf (inHeader s) = ⟨signed (streamValue s false 4 4) 32, signed (streamValue s false 12 4) 32,
      signed (streamValue s false 16 2) 16, signed (streamValue s false 18 2) 16⟩ := by
  have hsize : (inHeader s)[1].toNat = streamValue s false 4 4 := inHeader_toNat s 1
  have hid : (inHeader s)[3].toNat = streamValue s false 12 4 := inHeader_toNat s 3
  obtain ⟨hw, hh⟩ := bitsOf_inHeader_four s
  rw [headerOf_eq, hsize, hid, hw, hh]

/-! ### The checks, in R322's order -/

/-- The payload that the header announces lies before IN_LEN: LOAD's first two checks pass. -/
structure PayloadInside (s : State) : Prop where
  header : 32 ≤ s.inLen.toNat
  size_nonneg : 0 ≤ (headerOf (inHeader s)).dataSize
  size_le : 32 + (headerOf (inHeader s)).dataSize ≤ (s.inLen.toNat : Int)

theorem PayloadInside.checks {s : State} (h : PayloadInside s) :
    ¬ s.inLen.toNat < 32 ∧ ¬ ((headerOf (inHeader s)).dataSize < 0 ∨
      (s.inLen.toNat : Int) < 32 + (headerOf (inHeader s)).dataSize) := by
  obtain ⟨h32, hsize, hfit⟩ := h
  omega

theorem tableFormat_eq_none {fid : Int} (h : fid < 0 ∨ 11 < fid) : tableFormat fid = none := by
  cases hf : tableFormat fid with
  | none => rfl
  | some f =>
    obtain ⟨⟨h0, h11⟩, -⟩ := tableFormat_some hf
    omega

section
variable {o : Orient} {pad : Bool} {s : State}

theorem loadBody_shortHeader (h : s.inLen.toNat < 32) : loadBody o pad s = .error (.raised .io) := if_pos h

theorem loadBody_badSize (h32 : 32 ≤ s.inLen.toNat)
    (h : (headerOf (inHeader s)).dataSize < 0 ∨ (s.inLen.toNat : Int) < 32 + (headerOf (inHeader s)).dataSize) :
    loadBody o pad s = .error (.raised .io) := by
  simp only [loadBody, if_neg h32.not_gt, if_pos h, raise_eq]

theorem loadBody_blockFormat (hp : PayloadInside s)
    (h : (headerOf (inHeader s)).formatId = 12 ∨ (headerOf (inHeader s)).formatId = 13) :
    loadBody o pad s = .error (.raised .unsupported) := by
  obtain ⟨h32, hsize⟩ := hp.checks
  simp only [loadBody, if_neg h32, if_neg hsize, if_pos h, raise_eq]

theorem loadBody_noFormat (hp : PayloadInside s)
    (h : (headerOf (inHeader s)).formatId < 0 ∨ 13 < (headerOf (inHeader s)).formatId) :
    loadBody o pad s = .error (.raised .config) := by
  obtain ⟨h32, hsize⟩ := hp.checks
  have hblock : ¬ ((headerOf (inHeader s)).formatId = 12 ∨ (headerOf (inHeader s)).formatId = 13) := by omega
  have hnone : tableFormat (headerOf (inHeader s)).formatId = none := tableFormat_eq_none (by omega)
  simp only [loadBody, if_neg h32, if_neg hsize, if_neg hblock, hnone, raise_eq]

/-- An id that has a format is neither 12 nor 13. -/
theorem not_blockFormat_of_tableFormat {fid : Int} {f : Layout × Word} (hf : tableFormat fid = some f) :
    ¬ (fid = 12 ∨ fid = 13) := by
  obtain ⟨⟨-, h11⟩, -⟩ := tableFormat_some hf
  omega

theorem loadBody_badDimension {f : Layout × Word} (hp : PayloadInside s)
    (hf : tableFormat (headerOf (inHeader s)).formatId = some f)
    (h : (headerOf (inHeader s)).width ≤ 0 ∨ (headerOf (inHeader s)).height ≤ 0) :
    loadBody o pad s = .error (.raised .config) := by
  obtain ⟨h32, hsize⟩ := hp.checks
  simp only [loadBody, if_neg h32, if_neg hsize, if_neg (not_blockFormat_of_tableFormat hf), hf, if_pos h, raise_eq]

theorem loadBody_tooLarge {f : Layout × Word} (hp : PayloadInside s)
    (hf : tableFormat (headerOf (inHeader s)).formatId = some f)
    (hdim : ¬ ((headerOf (inHeader s)).width ≤ 0 ∨ (headerOf (inHeader s)).height ≤ 0))
    (h : s.params.bmpWords < (jobOf (headerOf (inHeader s)) f o pad).pixels) :
    loadBody o pad s = .error (.raised .capacity) := by
  obtain ⟨h32, hsize⟩ := hp.checks
  simp only [loadBody, if_neg h32, if_neg hsize, if_neg (not_blockFormat_of_tableFormat hf), hf, if_neg hdim, if_pos h,
    raise_eq]

end

/-- Settles O43: the header's fields as signed stream values, then one check after the other. -/
theorem loadChecksTheHeaderInOrder : Obligations.LoadChecksTheHeaderInOrder := by
  unfold Obligations.LoadChecksTheHeaderInOrder
  refine ⟨inHeader_getElem, headerOf_inHeader, headerOf_eq, fun s o pad he => ?_⟩
  dsimp only
  refine ⟨fun h => runCommand_raised he (loadBody_shortHeader h), fun h32 h => runCommand_raised he (loadBody_badSize h32 h),
    fun h32 hsize hfit => ?_⟩
  have hp : PayloadInside s := ⟨h32, hsize, hfit⟩
  refine ⟨fun h => runCommand_raised he (loadBody_blockFormat hp h), fun h => runCommand_raised he (loadBody_noFormat hp h),
    fun h0 h11 => ?_⟩
  obtain ⟨f, hf⟩ := tableFormat_of_range h0 h11
  refine ⟨fun h => runCommand_raised he (loadBody_badDimension hp hf h), fun hw hh hlarge => ?_⟩
  refine runCommand_raised he (loadBody_tooLarge hp hf (by omega) ?_)
  have hpixels := jobOf_pixels (f := f) (o := o) (pad := pad) (Int.toNat_of_nonneg hw.le) (Int.toNat_of_nonneg hh.le)
  rw [hpixels]
  zify
  rwa [Int.toNat_of_nonneg hw.le, Int.toNat_of_nonneg hh.le]

end Sys2Proof.Machine
end

section
/-! LOAD of a container whose header passes (46_container.md R282 to R284): its loop up to the pixel that ends it. -/

namespace Sys2Proof.Machine

open Sys2Proof.Claims

/-! ### One pixel (R283) -/

theorem payloadNeed_mono (l : Layout) (w : Word) {n m : Nat} (h : n ≤ m) : payloadNeed l w n ≤ payloadNeed l w m := by
  unfold payloadNeed
  split
  · omega
  · exact Nat.mul_le_mul_right _ h

/-- The three answers, by the payload bytes that the pixels up to this one need. -/
theorem pixelAt_eq (s : State) (j : Job) (size i : Nat) :
    pixelAt s j (32 + size) i =
      if j.layout = .rgba ∧ size ≤ payloadNeed j.layout j.fmt i then .ok none
      else if size < payloadNeed j.layout j.fmt (i + 1) then .error .io
      else .ok (some (payloadUnit s j.layout j.fmt i)) := by
  have hunit : ∀ u, pixelAt s j (32 + size) i = .ok (some u) → u = payloadUnit s j.layout j.fmt i := fun u => pixelAt_some
  cases hn : isNibble j.layout j.fmt
  · have hneed : ∀ n, payloadNeed j.layout j.fmt n = n * unitSize j.layout j.fmt := fun n => by simp [payloadNeed, hn]
    have hend : 32 + size ≤ 32 + i * unitSize j.layout j.fmt ↔ size ≤ i * unitSize j.layout j.fmt := by omega
    have hcut : 32 + size < 32 + i * unitSize j.layout j.fmt + unitSize j.layout j.fmt ↔
        size < (i + 1) * unitSize j.layout j.fmt := by rw [Nat.succ_mul]; omega
    simp only [pixelAt, hn, Bool.false_eq_true, if_false, hend, hcut, payloadUnit_of_bytes hn, hneed]
  · have hneed : ∀ n, payloadNeed j.layout j.fmt n = (n + 1) / 2 := fun n => by simp [payloadNeed, hn]
    have hcut : 32 + size < 32 + i / 2 + 1 ↔ size < (i + 1 + 1) / 2 := by omega
    rw [if_neg fun h => ne_rgba_of_isNibble hn h.1, hneed]
    simp only [pixelAt, hn, if_true, hcut] at hunit ⊢
    by_cases hsize : size < (i + 1 + 1) / 2
    · simp only [if_pos hsize]
    · simp only [if_neg hsize] at hunit ⊢
      rw [hunit _ rfl]

theorem payloadNeed_rgba (w : Word) (n : Nat) : payloadNeed .rgba w n = n * unitSize .rgba w := rfl

theorem payloadNeed_rgba_lt (w : Word) (i : Nat) : payloadNeed .rgba w i < payloadNeed .rgba w (i + 1) := by
  have hpos := unitSize_rgba_pos w
  rw [payloadNeed_rgba, payloadNeed_rgba, Nat.succ_mul]
  omega

/-- A payload that reaches past pixel i gives its unit. -/
theorem pixelAt_inside {s : State} {j : Job} {size i : Nat} (h : payloadNeed j.layout j.fmt (i + 1) ≤ size) :
    pixelAt s j (32 + size) i = .ok (some (payloadUnit s j.layout j.fmt i)) := by
  have hmore : ¬ (j.layout = .rgba ∧ size ≤ payloadNeed j.layout j.fmt i) := by
    rintro ⟨hl, hsize⟩
    have hlt := payloadNeed_rgba_lt j.fmt i
    rw [hl] at h hsize
    omega
  rw [pixelAt_eq, if_neg hmore, if_neg h.not_gt]

/-- A payload that ends inside pixel i, or before it for LA and HL, is an IO error. -/
theorem pixelAt_cut {s : State} {j : Job} {size i : Nat} (hbefore : payloadNeed j.layout j.fmt i ≤ size)
    (hcut : size < payloadNeed j.layout j.fmt (i + 1)) (hrgba : j.layout = .rgba → size ≠ payloadNeed j.layout j.fmt i) :
    pixelAt s j (32 + size) i = .error .io := by
  have hmore : ¬ (j.layout = .rgba ∧ size ≤ payloadNeed j.layout j.fmt i) := fun ⟨hl, hsize⟩ =>
    hrgba hl (Nat.le_antisymm hsize hbefore)
  rw [pixelAt_eq, if_neg hmore, if_pos hcut]

/-! ### The loop up to a pixel (R284) -/

/-- Pixels that are in the payload and in the bitmap do not end the loop. -/
theorem loadPixels_run {s : State} {j : Job} {e n i : Nat}
    (h : ∀ q, i ≤ q → q < i + n → (∃ u, pixelAt s j e q = .ok (some u)) ∧ ∃ k, pixelWord j q = some k) (m : Memory) :
    ∃ m', ∀ todo, loadPixels s j e (n + todo) i m = loadPixels s j e todo (i + n) m' := by
  induction n generalizing i m with
  | zero => exact ⟨m, fun todo => by rw [Nat.zero_add, Nat.add_zero]⟩
  | succ n ih =>
    obtain ⟨⟨u, hu⟩, k, hk⟩ := h i le_rfl (by omega)
    obtain ⟨m', hm'⟩ := ih (i := i + 1) (fun q hq hlt => h q (by omega) (by omega))
      (Memory.writeWord m k (decodeUnit j.layout j.fmt u))
    refine ⟨m', fun todo => ?_⟩
    have hcount : n + 1 + todo = (n + todo) + 1 := by omega
    have hindex : i + (n + 1) = i + 1 + n := by omega
    rw [hcount, hindex, ← hm']
    simp only [loadPixels, hu, hk]

/-- A word that is no loaded pixel's keeps what it held. -/
theorem loadPixels_keeps_unloaded {s : State} {j : Job} {e todo i : Nat} {m m' : Memory} {count : Nat} (epoch : Nat) {k : Nat}
    (h : loadPixels s j e todo i m = .ok (m', count)) (hk : ∀ q, i ≤ q → q < count → pixelWord j q ≠ some k) :
    Memory.wordAt m' epoch k = Memory.wordAt m epoch k := by
  induction todo generalizing i m with
  | zero => cases h; rfl
  | succ todo ih =>
    obtain ⟨rfl, -⟩ | ⟨k', hk', hrest⟩ := loadPixels_succ_ok h
    · rfl
    · obtain ⟨hlt, -⟩ := loadPixels_ok hrest
      have hne : k ≠ k' := fun he => hk i le_rfl hlt (he ▸ hk')
      rw [ih hrest fun q hq => hk q (by omega), wordAt_writeWord_other m epoch _ hne]

/-- Bytes past the image keep what they held. -/
theorem loadPixels_keeps_past {s : State} {j : Job} {e todo i : Nat} {m m' : Memory} {count : Nat} (epoch : Nat) {a : Nat}
    (h : loadPixels s j e todo i m = .ok (m', count)) (ha : 4 * j.pixels ≤ a) :
    Memory.byteAt m' epoch .bmp a = Memory.byteAt m epoch .bmp a := by
  induction todo generalizing i m with
  | zero => cases h; rfl
  | succ todo ih =>
    obtain ⟨rfl, -⟩ | ⟨k, hk, hrest⟩ := loadPixels_succ_ok h
    · rfl
    · have hlt := pixelWord_lt hk
      rw [ih hrest, Memory.writeWord, byteAt_writeBytes_outside]
      rw [leBytes_length]
      omega

/-! ### A header that passes every check -/

/-- The job of a container of this format and these dimensions, under a command's ORIENT and PAD. -/
def imageJob (l : Layout) (w : Word) (o : Orient) (pad : Bool) (wd ht : Nat) : Job :=
  { layout := l, fmt := w, orient := o, width := wd, height := ht, effW := effective pad wd, effH := effective pad ht }

theorem jobOf_eq_imageJob {h : Header} {wd ht : Nat} (hw : h.width = wd) (hh : h.height = ht) (l : Layout) (w : Word)
    (o : Orient) (pad : Bool) : jobOf h (l, w) o pad = imageJob l w o pad wd ht := by
  simp only [jobOf, imageJob, hw, hh, Int.toNat_natCast]

theorem pixels_imageJob (l : Layout) (w : Word) (o : Orient) (pad : Bool) (wd ht : Nat) :
    (imageJob l w o pad wd ht).pixels = wd * ht := rfl

theorem pixelWord_imageJob_eq_some_iff (l : Layout) (w : Word) (o : Orient) (pad : Bool) (wd ht i k : Nat) :
    pixelWord (imageJob l w o pad wd ht) i = some k ↔
      ∃ x y, PixelAt o (effectiveDim pad wd) (effectiveDim pad ht) wd ht i x y ∧ k = y * wd + x :=
  pixelWord_eq_some_iff _ i k

theorem pixelWord_imageJob_eq_none (l : Layout) (w : Word) {o : Orient} {pad : Bool} {wd ht i : Nat}
    (h : ∀ x y, ¬ PixelAt o (effectiveDim pad wd) (effectiveDim pad ht) wd ht i x y) :
    pixelWord (imageJob l w o pad wd ht) i = none := by
  refine Option.eq_none_iff_forall_ne_some.2 fun k hk => ?_
  obtain ⟨x, y, hxy, -⟩ := (pixelWord_imageJob_eq_some_iff l w o pad wd ht i k).1 hk
  exact h x y hxy

theorem exists_pixelWord_imageJob (l : Layout) (w : Word) {o : Orient} {pad : Bool} {wd ht i : Nat}
    (h : ∃ x y, PixelAt o (effectiveDim pad wd) (effectiveDim pad ht) wd ht i x y) :
    ∃ k, pixelWord (imageJob l w o pad wd ht) i = some k := by
  obtain ⟨x, y, hxy⟩ := h
  exact ⟨_, (pixelWord_imageJob_eq_some_iff l w o pad wd ht i _).2 ⟨x, y, hxy, rfl⟩⟩

/-- IN holds a container of this format, payload size and dimensions that passes LOAD's checks of the header. -/
structure HoldsHeader (s : State) (l : Layout) (w : Word) (size wd ht : Nat) : Prop where
  len : 32 ≤ s.inLen.toNat
  header : headerOf (inHeader s) = ⟨size, (headerOf (inHeader s)).formatId, wd, ht⟩
  size_le : 32 + size ≤ s.inLen.toNat
  format : tableFormat (headerOf (inHeader s)).formatId = some (l, w)
  width_pos : 0 < wd
  height_pos : 0 < ht
  fits : wd * ht ≤ s.params.bmpWords

theorem HoldsHeader.fields {s : State} {l : Layout} {w : Word} {size wd ht : Nat} (h : HoldsHeader s l w size wd ht) :
    (headerOf (inHeader s)).dataSize = size ∧ (headerOf (inHeader s)).width = wd ∧ (headerOf (inHeader s)).height = ht :=
  ⟨congrArg Header.dataSize h.header, congrArg Header.width h.header, congrArg Header.height h.header⟩

/-- Past its checks LOAD is its loop, whose result it commits or whose error it raises. -/
theorem HoldsHeader.loadBody {s : State} {l : Layout} {w : Word} {size wd ht : Nat} (h : HoldsHeader s l w size wd ht)
    (o : Orient) (pad : Bool) :
    (∀ m count, loadPixels s (imageJob l w o pad wd ht) (32 + size) (wd * ht) 0 s.bmp = .ok (m, count) →
      loadBody o pad s = .ok (commitLoad s (imageJob l w o pad wd ht) m count)) ∧
    (∀ e, loadPixels s (imageJob l w o pad wd ht) (32 + size) (wd * ht) 0 s.bmp = .error e →
      loadBody o pad s = .error (.raised e)) := by
  obtain ⟨hsize, hw, hh⟩ := h.fields
  have hsizeLe := h.size_le
  obtain ⟨h32, hinside⟩ := PayloadInside.checks ⟨h.len, by omega, by omega⟩
  have hdim : ¬ ((headerOf (inHeader s)).width ≤ 0 ∨ (headerOf (inHeader s)).height ≤ 0) := by
    have := h.width_pos
    have := h.height_pos
    omega
  have hjob := jobOf_eq_imageJob hw hh l w o pad
  have hend : (headerOf (inHeader s)).dataSize.toNat = size := by rw [hsize, Int.toNat_natCast]
  refine ⟨fun m count hload => ?_, fun e hload => ?_⟩
  all_goals
    simp only [Machine.loadBody, if_neg h32, if_neg hinside, if_neg (not_blockFormat_of_tableFormat h.format), h.format,
      if_neg hdim, hjob, pixels_imageJob, if_neg h.fits.not_gt, hend, hload, raise_eq]

/-! ### The words of BMP (R282) -/

theorem bmpWord_eq_wordAt (s : State) (k : Nat) : bmpWord s k = Memory.wordAt s.bmp s.powerOns k := by
  rw [bmpWord, Memory.wordAt, leValue_map_range]
  rfl

/-- A loop that ends well after `count` pixels: LOAD commits it, and each of these pixels stands at its address. -/
theorem HoldsHeader.load_ok {s : State} {l : Layout} {w : Word} {size wd ht : Nat} (h : HoldsHeader s l w size wd ht)
    {o : Orient} {pad : Bool} (he : s.status.err = .noError) {m : Memory} {count : Nat}
    (hload : loadPixels s (imageJob l w o pad wd ht) (32 + size) (wd * ht) 0 s.bmp = .ok (m, count)) :
    ∃ t, exec (.load o pad) s = .next t ∧
      t = { s with
        bmp := t.bmp, hdr := inHeader s, bmpW := BitVec.ofNat 16 wd, bmpH := BitVec.ofNat 16 ht
        res0 := BitVec.ofNat 32 count, status := { s.status with hdrValid := true, short := decide (count < wd * ht) } } ∧
      (∀ i x y, i < count → PixelAt o (effectiveDim pad wd) (effectiveDim pad ht) wd ht i x y →
        bmpWord t (y * wd + x) = decodeUnit l w (payloadUnit s l w i)) ∧
      (∀ k, (∀ i, i < count → pixelWord (imageJob l w o pad wd ht) i ≠ some k) → bmpWord t k = bmpWord s k) ∧
      (∀ a, 4 * (wd * ht) ≤ a → readByte t .bmp a = readByte s .bmp a) := by
  refine ⟨_, runCommand_ok he ((h.loadBody o pad).1 m count hload), rfl, fun i x y hi hxy => ?_, fun k hk => ?_,
    fun a ha => loadPixels_keeps_past s.powerOns hload ha⟩
  · obtain ⟨k, hk, hword⟩ := loadPixels_places s.powerOns hload (Nat.zero_le i) hi
    have hk' := (pixelWord_imageJob_eq_some_iff l w o pad wd ht i _).2 ⟨x, y, hxy, rfl⟩
    rw [bmpWord_eq_wordAt, ← Option.some.inj (hk.symm.trans hk')]
    exact hword
  · rw [bmpWord_eq_wordAt, bmpWord_eq_wordAt]
    exact loadPixels_keeps_unloaded s.powerOns hload fun q _ hq => hk q hq

/-- Pixels inside the payload and the bitmap do not end the loop. -/
theorem loadPixels_run_inside {s : State} {l : Layout} {w : Word} {o : Orient} {pad : Bool} {size wd ht n : Nat}
    (hneed : payloadNeed l w n ≤ size)
    (hpixels : ∀ i, i < n → ∃ x y, PixelAt o (effectiveDim pad wd) (effectiveDim pad ht) wd ht i x y) (m : Memory) :
    ∃ m', ∀ todo, loadPixels s (imageJob l w o pad wd ht) (32 + size) (n + todo) 0 m =
      loadPixels s (imageJob l w o pad wd ht) (32 + size) todo n m' := by
  have hrun : ∀ q, 0 ≤ q → q < 0 + n →
      (∃ u, pixelAt s (imageJob l w o pad wd ht) (32 + size) q = .ok (some u)) ∧
        ∃ k, pixelWord (imageJob l w o pad wd ht) q = some k := by
    intro q _ hq
    rw [Nat.zero_add] at hq
    exact ⟨⟨_, pixelAt_inside ((payloadNeed_mono l w hq).trans hneed)⟩, exists_pixelWord_imageJob l w (hpixels q hq)⟩
  simpa only [Nat.zero_add] using loadPixels_run hrun m

/-! ### The statements -/

/-- Settles O41: no pixel ends the loop. -/
theorem loadDecodesTheContainer : Obligations.LoadDecodesTheContainer := by
  unfold Obligations.LoadDecodesTheContainer
  intro s o pad l w wd ht size he h32 hheader hsize hf hwd hht hfit hneed hpixels
  have h : HoldsHeader s l w size wd ht := ⟨h32, hheader, hsize, hf, hwd, hht, hfit⟩
  obtain ⟨m, hm⟩ := loadPixels_run_inside (s := s) hneed hpixels s.bmp
  obtain ⟨t, hexec, hstate, hplaced, -, hpast⟩ := h.load_ok he (hm 0)
  refine ⟨t, hexec, hstate.trans ?_, hplaced, hpast⟩
  rw [decide_eq_false (lt_irrefl _)]

/-- Settles O42: the loop ends at the payload's end, before the next pixel. -/
theorem loadOfAShortRgbaPayload : Obligations.LoadOfAShortRgbaPayload := by
  unfold Obligations.LoadOfAShortRgbaPayload
  intro s o pad w wd ht count he h32 hheader hsize hf hwd hht hfit hcount hpixels
  have h : HoldsHeader s .rgba w (count * unitSize .rgba w) wd ht := ⟨h32, hheader, hsize, hf, hwd, hht, hfit⟩
  have hend : pixelAt s (imageJob .rgba w o pad wd ht) (32 + count * unitSize .rgba w) count = .ok none := by
    rw [pixelAt_eq]
    exact if_pos ⟨rfl, le_rfl⟩
  obtain ⟨m, hm⟩ := loadPixels_run_inside (s := s) (payloadNeed_rgba w count).le hpixels s.bmp
  obtain ⟨todo, htodo⟩ := Nat.exists_eq_add_of_lt hcount
  have hload : loadPixels s (imageJob .rgba w o pad wd ht) (32 + count * unitSize .rgba w) (wd * ht) 0 s.bmp =
      .ok (m, count) := by
    rw [htodo, Nat.add_assoc, hm]
    simp only [loadPixels, hend]
  obtain ⟨t, hexec, hstate, hplaced, hkept, -⟩ := h.load_ok he hload
  refine ⟨t, hexec, hstate.trans ?_, hplaced, fun k hk => hkept k fun i hi hword => ?_⟩
  · rw [decide_eq_true hcount]
  · obtain ⟨x, y, hxy, hk'⟩ := (pixelWord_imageJob_eq_some_iff .rgba w o pad wd ht i k).1 hword
    exact hk i x y hi hxy hk'

/-- The first pixel whose address is outside the bitmap ends LOAD with BOUNDS, when the payload reaches past it. -/
theorem HoldsHeader.load_bounds {s : State} {l : Layout} {w : Word} {size wd ht bad : Nat}
    (h : HoldsHeader s l w size wd ht) {o : Orient} {pad : Bool} (hbad : bad < wd * ht)
    (hpixels : ∀ i, i < bad → ∃ x y, PixelAt o (effectiveDim pad wd) (effectiveDim pad ht) wd ht i x y)
    (hout : ∀ x y, ¬ PixelAt o (effectiveDim pad wd) (effectiveDim pad ht) wd ht bad x y)
    (hneed : payloadNeed l w (bad + 1) ≤ size) : Machine.loadBody o pad s = .error (.raised (.bounds bad)) := by
  have hunit : pixelAt s (imageJob l w o pad wd ht) (32 + size) bad = .ok (some (payloadUnit s l w bad)) :=
    pixelAt_inside hneed
  obtain ⟨m, hm⟩ := loadPixels_run_inside (s := s) ((payloadNeed_mono l w bad.le_succ).trans hneed) hpixels s.bmp
  obtain ⟨todo, htodo⟩ := Nat.exists_eq_add_of_lt hbad
  refine (h.loadBody o pad).2 _ ?_
  rw [htodo, Nat.add_assoc, hm]
  simp only [loadPixels, hunit, pixelWord_imageJob_eq_none l w hout]

/-- A payload that ends at or inside a pixel ends LOAD with IO, whatever the pixel's address. -/
theorem HoldsHeader.load_cut {s : State} {l : Layout} {w : Word} {size wd ht bad : Nat}
    (h : HoldsHeader s l w size wd ht) {o : Orient} {pad : Bool} (hbad : bad < wd * ht)
    (hpixels : ∀ i, i < bad → ∃ x y, PixelAt o (effectiveDim pad wd) (effectiveDim pad ht) wd ht i x y)
    (hbefore : payloadNeed l w bad ≤ size) (hcut : size < payloadNeed l w (bad + 1))
    (hrgba : l = .rgba → size ≠ payloadNeed l w bad) : Machine.loadBody o pad s = .error (.raised .io) := by
  have hio : pixelAt s (imageJob l w o pad wd ht) (32 + size) bad = .error .io := pixelAt_cut hbefore hcut hrgba
  obtain ⟨m, hm⟩ := loadPixels_run_inside (s := s) hbefore hpixels s.bmp
  obtain ⟨todo, htodo⟩ := Nat.exists_eq_add_of_lt hbad
  refine (h.loadBody o pad).2 _ ?_
  rw [htodo, Nat.add_assoc, hm]
  simp only [loadPixels, hio]

end Sys2Proof.Machine
end

section
/-! SAVE (46_container.md R285): its checks, the first pixel outside the bitmap, and the bytes of the container it writes; and
every command that fills OUT (20_memory.md R79). -/

namespace Sys2Proof.Machine

open Sys2Proof.Claims

/-! ### The checks before the pixels (R285, R323) -/

theorem append_halfwords_eq (x y : BitVec 16) : x ++ y = BitVec.ofNat 32 (x.toNat * 2 ^ 16 + y.toNat) := by
  refine BitVec.eq_of_toNat_eq ?_
  rw [toNat_append_eq_add, BitVec.toNat_ofNat]
  omega

theorem saveBody_noHeader {o : Orient} {pad : Bool} {s : State} (hv : s.status.hdrValid = false) :
    saveBody o pad s = .error (.raised .state) := by
  simp [saveBody, hv]

theorem saveBody_width {o : Orient} {pad : Bool} {s : State} (hv : s.status.hdrValid = true)
    (hw : (s.bmpW.toNat : Int) ≠ (headerOf s.hdr).width) :
    saveBody o pad s = .error (.raised (.validation s.bmpW (s.hdr[4].extractLsb' 0 16) 0#32)) := by
  simp only [saveBody, if_pos hv, if_pos hw, raise_eq]

theorem saveBody_height {o : Orient} {pad : Bool} {s : State} (hv : s.status.hdrValid = true)
    (hw : (s.bmpW.toNat : Int) = (headerOf s.hdr).width) (hh : (s.bmpH.toNat : Int) ≠ (headerOf s.hdr).height) :
    saveBody o pad s = .error (.raised (.validation s.bmpH (s.hdr[4].extractLsb' 16 16) 1#32)) := by
  simp only [saveBody, if_pos hv, if_neg (not_not.2 hw), if_pos hh, raise_eq]

/-- Settles O45: STATE, then the width, then the height. -/
theorem saveValidatesTheDimensions : Obligations.SaveValidatesTheDimensions := by
  unfold Obligations.SaveValidatesTheDimensions
  refine fun s o pad he => ⟨fun hv => runCommand_raised he (saveBody_noHeader hv), fun hv hw => ?_, fun hv hw hh => ?_⟩
  · rw [← field_eq_bitsOf, field, ← append_halfwords_eq]
    exact runCommand_raised he (saveBody_width hv hw)
  · rw [← field_eq_bitsOf, field, ← append_halfwords_eq]
    exact runCommand_raised he (saveBody_height hv hw hh)

/-! ### A header and a bitmap that match -/

/-- HDR holds a header of this format and these dimensions, BMP_W and BMP_H match it, and BMP holds as many pixels. -/
structure Savable (s : State) (l : Layout) (w : Word) (wd ht : Nat) : Prop where
  hdrValid : s.status.hdrValid = true
  width : (headerOf s.hdr).width = wd
  height : (headerOf s.hdr).height = ht
  bmpW : s.bmpW.toNat = wd
  bmpH : s.bmpH.toNat = ht
  format : tableFormat (headerOf s.hdr).formatId = some (l, w)
  fits : wd * ht ≤ s.params.bmpWords

/-- Past the dimensions SAVE is its walk: a pixel's error, CAPACITY, or the container. -/
theorem Savable.saveBody {s : State} {l : Layout} {w : Word} {wd ht : Nat} (h : Savable s l w wd ht) (o : Orient) (pad : Bool) :
    (∀ e, savePixels s (imageJob l w o pad wd ht) (wd * ht) 0 = .error e →
      saveBody o pad s = .error (.raised e)) ∧
    (∀ us, savePixels s (imageJob l w o pad wd ht) (wd * ht) 0 = .ok us →
      (s.params.outSize < (headerBytes s.hdr ++ payloadOf (imageJob l w o pad wd ht) us).length →
        saveBody o pad s = .error (.raised .capacity)) ∧
      ((headerBytes s.hdr ++ payloadOf (imageJob l w o pad wd ht) us).length ≤ s.params.outSize →
        saveBody o pad s = .ok (commitSave s (headerBytes s.hdr ++ payloadOf (imageJob l w o pad wd ht) us)
          (isNibble l w && decide (wd * ht % 2 = 1))))) := by
  have hjob := jobOf_eq_imageJob h.width h.height l w o pad
  have hw : ¬ (s.bmpW.toNat : Int) ≠ (headerOf s.hdr).width := by rw [h.bmpW, h.width]; simp
  have hh : ¬ (s.bmpH.toNat : Int) ≠ (headerOf s.hdr).height := by rw [h.bmpH, h.height]; simp
  refine ⟨fun e hsave => ?_, fun us hsave => ⟨fun hfull => ?_, fun hroom => ?_⟩⟩
  · simp only [Machine.saveBody, if_pos h.hdrValid, if_neg hw, if_neg hh, h.format, hjob, pixels_imageJob,
      if_neg h.fits.not_gt, hsave, raise_eq]
  · simp only [Machine.saveBody, if_pos h.hdrValid, if_neg hw, if_neg hh, h.format, hjob, pixels_imageJob,
      if_neg h.fits.not_gt, hsave, if_pos hfull, raise_eq]
  · simp only [Machine.saveBody, if_pos h.hdrValid, if_neg hw, if_neg hh, h.format, hjob, pixels_imageJob,
      if_neg h.fits.not_gt, hsave, if_neg hroom.not_gt]
    rfl

/-! ### The walk over the pixels (R285) -/

/-- The first pixel outside the bitmap ends the walk. -/
theorem savePixels_bounds {s : State} {j : Job} {n todo i : Nat}
    (h : ∀ q, i ≤ q → q < i + n → ∃ k, pixelWord j q = some k) (hbad : pixelWord j (i + n) = none) :
    savePixels s j (n + (todo + 1)) i = .error (.bounds (i + n)) := by
  induction n generalizing i with
  | zero =>
    rw [Nat.add_zero] at hbad
    rw [Nat.zero_add]
    simp only [savePixels, hbad, Nat.add_zero]
  | succ n ih =>
    have hindex : i + (n + 1) = i + 1 + n := by omega
    have hcount : n + 1 + (todo + 1) = n + (todo + 1) + 1 := by omega
    obtain ⟨k, hk⟩ := h i le_rfl (by omega)
    rw [hindex] at hbad ⊢
    have hrest := ih (i := i + 1) (fun q hq hlt => h q (by omega) (by omega)) hbad
    rw [hcount, savePixels, hk]
    simp only [hrest]

/-- Settles O46: LOAD's loop and SAVE's walk up to the first failing pixel. -/
theorem pixelOutsideTheBitmapRaisesBounds : Obligations.PixelOutsideTheBitmapRaisesBounds := by
  unfold Obligations.PixelOutsideTheBitmapRaisesBounds
  intro s o pad l w wd ht bad he hfit hwd hht hbad hpixels
  refine ⟨fun size h32 hheader hsize hf => ?_, fun hv hw hh hbw hbh hf hout => ?_⟩
  · have h : HoldsHeader s l w size wd ht := ⟨h32, hheader, hsize, hf, hwd, hht, hfit⟩
    exact ⟨fun hout hneed => runCommand_raised he (h.load_bounds hbad hpixels hout hneed),
      fun hbefore hcut hrgba => runCommand_raised he (h.load_cut hbad hpixels hbefore hcut hrgba)⟩
  · have h : Savable s l w wd ht := ⟨hv, hw, hh, hbw, hbh, hf, hfit⟩
    obtain ⟨todo, htodo⟩ := Nat.exists_eq_add_of_lt hbad
    have hbounds : savePixels s (imageJob l w o pad wd ht) (wd * ht) 0 = .error (.bounds bad) := by
      have hwalk := savePixels_bounds (s := s) (j := imageJob l w o pad wd ht) (n := bad) (todo := todo) (i := 0)
        (fun q _ hq => exists_pixelWord_imageJob l w (hpixels q (by omega)))
        (by rw [Nat.zero_add]; exact pixelWord_imageJob_eq_none l w hout)
      rwa [Nat.zero_add, ← Nat.add_assoc, ← htodo] at hwalk
    exact runCommand_raised he ((h.saveBody o pad).1 _ hbounds)

/-! ### The container's bytes (R280, R283, R285) -/

/-- Byte b of unit i, where every unit is n little-endian bytes. -/
theorem getElem?_flatMap_leBytes {α : Type} (value : α → Nat) {n b : Nat} (hb : b < n) (xs : List α) {i : Nat}
    (hi : i < xs.length) :
    (xs.flatMap fun x => leBytes (value x) n)[i * n + b]? = some (BitVec.ofNat 8 (value xs[i] / 2 ^ (8 * b))) := by
  induction xs generalizing i with
  | nil => cases hi
  | cons x xs ih =>
    rw [List.flatMap_cons]
    cases i with
    | zero =>
      have hlt : 0 * n + b < (leBytes (value x) n).length := by rw [leBytes_length]; omega
      have hpow : (256 : Nat) ^ b = 2 ^ (8 * b) := by rw [pow_mul]; norm_num
      rw [List.getElem?_append_left hlt, List.getElem?_eq_getElem hlt, leBytes_getElem]
      simp [hpow]
    | succ i =>
      have hge : (leBytes (value x) n).length ≤ (i + 1) * n + b := by rw [leBytes_length, Nat.succ_mul]; omega
      have hindex : (i + 1) * n + b - n = i * n + b := by rw [Nat.succ_mul]; omega
      rw [List.getElem?_append_right hge, leBytes_length, hindex, ih (by simpa using hi)]
      simp

theorem length_flatMap_leBytes (us : List Nat) (n : Nat) : (us.flatMap fun u => leBytes u n).length = us.length * n := by
  induction us with
  | nil => simp
  | cons u us ih => rw [List.flatMap_cons, List.length_append, ih, leBytes_length, List.length_cons]; ring

theorem length_packNibbles : ∀ us : List Nat, (packNibbles us).length = us.length / 2
  | [] => rfl
  | [_] => by simp [packNibbles]
  | _ :: _ :: us => by
    have hrest := length_packNibbles us
    simp only [packNibbles, List.length_cons]
    omega

theorem getElem?_packNibbles : ∀ (us : List Nat) {i : Nat} (h : 2 * i + 1 < us.length),
    (packNibbles us)[i]? = some (BitVec.ofNat 8 (us[2 * i] + 16 * us[2 * i + 1]))
  | [], _, h => absurd h (Nat.not_lt_zero _)
  | [_], i, h => absurd h (by simp)
  | _ :: _ :: _, 0, _ => rfl
  | a :: b :: us, i + 1, h => by
    have hrest := getElem?_packNibbles us (i := i) (by simp only [List.length_cons] at h; omega)
    rw [packNibbles, List.getElem?_cons_succ, hrest]
    rfl

theorem length_payloadOf (j : Job) (us : List Nat) : (payloadOf j us).length = savedLength j.layout j.fmt us.length := by
  unfold payloadOf savedLength
  split
  · exact length_packNibbles us
  · exact length_flatMap_leBytes us _

/-- The unit that SAVE takes for pixel i, where the pixel has a word. -/
def savedUnit (s : State) (j : Job) (i : Nat) : Nat := encodeUnit j.layout j.fmt (readBmp s ((pixelWord j i).getD 0))

/-- The container that SAVE writes when every pixel has a word. -/
def savedContainer (s : State) (j : Job) (pixels : Nat) : List Byte :=
  headerBytes s.hdr ++ payloadOf j ((List.range' 0 pixels).map (savedUnit s j))

theorem length_savedContainer (s : State) (j : Job) (pixels : Nat) :
    (savedContainer s j pixels).length = 32 + savedLength j.layout j.fmt pixels := by
  rw [savedContainer, List.length_append, headerBytes_length, length_payloadOf, List.length_map, List.length_range']

theorem savedUnit_imageJob {s : State} {l : Layout} {w : Word} {o : Orient} {pad : Bool} {wd ht i x y : Nat}
    (h : PixelAt o (effectiveDim pad wd) (effectiveDim pad ht) wd ht i x y) :
    savedUnit s (imageJob l w o pad wd ht) i = encodeUnit l w (bmpWord s (y * wd + x)) := by
  have hword := (pixelWord_imageJob_eq_some_iff l w o pad wd ht i _).2 ⟨x, y, h, rfl⟩
  rw [savedUnit, hword, Option.getD_some, bmpWord_eq_wordAt, readBmp_eq_wordAt]
  rfl

theorem savePixels_imageJob (s : State) (l : Layout) (w : Word) {o : Orient} {pad : Bool} {wd ht : Nat}
    (h : ∀ i, i < wd * ht → ∃ x y, PixelAt o (effectiveDim pad wd) (effectiveDim pad ht) wd ht i x y) :
    savePixels s (imageJob l w o pad wd ht) (wd * ht) 0 =
      .ok ((List.range' 0 (wd * ht)).map (savedUnit s (imageJob l w o pad wd ht))) := by
  refine savePixels_eq_ok fun q _ hq => ?_
  obtain ⟨k, hk⟩ := exists_pixelWord_imageJob l w (h q (by omega))
  exact ⟨k, hk, by rw [savedUnit, hk, Option.getD_some]⟩

/-- Byte i of header word k. -/
theorem savedContainer_header (s : State) (j : Job) (pixels : Nat) (k : Fin 8) {i : Nat} (hi : i < 4) :
    (savedContainer s j pixels)[4 * k.val + i]? = some (BitVec.ofNat 8 (s.hdr[k].toNat / 2 ^ (8 * i))) := by
  have hbyte := getElem?_flatMap_leBytes BitVec.toNat hi s.hdr.toList (i := k.val) (by simp)
  have hlt : 4 * k.val + i < (headerBytes s.hdr).length := by rw [headerBytes_length]; omega
  rw [savedContainer, List.getElem?_append_left hlt, Nat.mul_comm, headerBytes, hbyte]
  simp

theorem savedContainer_payload (s : State) (j : Job) (pixels c : Nat) :
    (savedContainer s j pixels)[32 + c]? = (payloadOf j ((List.range' 0 pixels).map (savedUnit s j)))[c]? := by
  rw [savedContainer, List.getElem?_append_right (by rw [headerBytes_length]; omega), headerBytes_length,
    Nat.add_sub_cancel_left]

/-- Byte b of pixel i's unit. -/
theorem savedContainer_unit {s : State} {j : Job} {pixels i b : Nat} (hn : isNibble j.layout j.fmt = false)
    (hi : i < pixels) (hb : b < unitSize j.layout j.fmt) :
    (savedContainer s j pixels)[32 + i * unitSize j.layout j.fmt + b]? =
      some (BitVec.ofNat 8 (savedUnit s j i / 2 ^ (8 * b))) := by
  have hbyte := getElem?_flatMap_leBytes id hb ((List.range' 0 pixels).map (savedUnit s j)) (i := i) (by simpa using hi)
  rw [Nat.add_assoc, savedContainer_payload, payloadOf, hn, if_neg Bool.false_ne_true]
  simpa using hbyte

/-- The byte of pixels 2i and 2i + 1, the first one's nibble low. -/
theorem savedContainer_nibbles {s : State} {j : Job} {pixels i : Nat} (hn : isNibble j.layout j.fmt = true)
    (hi : 2 * i + 1 < pixels) :
    (savedContainer s j pixels)[32 + i]? =
      some (BitVec.ofNat 8 (savedUnit s j (2 * i) + 16 * savedUnit s j (2 * i + 1))) := by
  have hbyte := getElem?_packNibbles ((List.range' 0 pixels).map (savedUnit s j)) (i := i) (by simpa using hi)
  rw [savedContainer_payload, payloadOf, hn, if_pos rfl, hbyte]
  simp

theorem readByte_commitSave_of_getElem? {s : State} {container : List Byte} {dropped : Bool} {a : Nat} {x : Byte}
    (h : container[a]? = some x) : readByte (commitSave s container dropped) .out a = x := by
  obtain ⟨hlt, hx⟩ := List.getElem?_eq_some_iff.1 h
  rw [readByte_commitSave hlt, hx]

theorem readByte_commitSave_past {s : State} {container : List Byte} {dropped : Bool} {a : Nat}
    (h : container.length ≤ a) : readByte (commitSave s container dropped) .out a = readByte s .out a :=
  byteAt_writeBytes_outside s.outBuf s.powerOns .out (.inr (by rwa [Nat.zero_add]))

/-- Settles O44: SAVE commits the container, read byte by byte. -/
theorem saveEncodesTheBitmap : Obligations.SaveEncodesTheBitmap := by
  unfold Obligations.SaveEncodesTheBitmap
  intro s o pad l w wd ht he hv hw hh hbw hbh hf hfit hpixels len unit hroom
  have h : Savable s l w wd ht := ⟨hv, hw, hh, hbw, hbh, hf, hfit⟩
  have hlen : (savedContainer s (imageJob l w o pad wd ht) (wd * ht)).length = 32 + len := length_savedContainer ..
  have hbody := ((h.saveBody o pad).2 _ (savePixels_imageJob s l w hpixels)).2 (hlen.trans_le hroom)
  refine ⟨_, runCommand_ok he hbody, ?_, fun k i hi => ?_, fun hn i x y b hi hb hxy => ?_,
    fun hn i x y x' y' hi hxy hxy' => ?_, fun a ha => ?_⟩
  · rw [← hlen]
    rfl
  · exact readByte_commitSave_of_getElem? (savedContainer_header s _ _ k hi)
  · have hbyte := savedContainer_unit (s := s) (j := imageJob l w o pad wd ht) hn hi hb
    rw [savedUnit_imageJob hxy] at hbyte
    exact readByte_commitSave_of_getElem? hbyte
  · have hbyte := savedContainer_nibbles (s := s) (j := imageJob l w o pad wd ht) hn hi
    rw [savedUnit_imageJob hxy, savedUnit_imageJob hxy'] at hbyte
    exact readByte_commitSave_of_getElem? hbyte
  · exact readByte_commitSave_past (hlen.trans_le ha)

/-! ### A full OUT (20_memory R79) -/

/-- Settles O20: WRU, the nibble packer under WRNIB and ENCPIX, ENCPIX of whole bytes, and SAVE. -/
theorem fullOutputRaisesCapacity : Obligations.FullOutputRaisesCapacity := by
  unfold Obligations.FullOutputRaisesCapacity
  refine ⟨fun s wc be n he hn hfull => ?_, fun s he harg hp hfull => ?_, fun s l he hv hl hn hfull => ?_,
    fun s l he hv hl hn hp hfull => ?_, fun s o pad l w wd ht he hv hw hh hbw hbh hf hfit hpixels hfull => ?_⟩
  · obtain ⟨hwc, -⟩ := nbytes_of_mem_widths hn
    have hbody : wruBody wc be s = .error (.raised .capacity) := by
      simp only [wruBody, hwc, (outOverflows_iff s n).2 hfull, if_true, raise_eq]
    exact runCommand_raised he hbody
  · exact runCommand_raised he ((wrnibBody_of_le harg).trans (nibPut_full _ hp hfull))
  · exact runCommand_raised he ((encpixBody_eq hv hl).trans (encodeColour_full hn hfull))
  · exact runCommand_raised he
      ((encpixBody_eq hv hl).trans ((encodeColour_nibble hn).trans (nibPut_full _ hp hfull)))
  · have h : Savable s l w wd ht := ⟨hv, hw, hh, hbw, hbh, hf, hfit⟩
    have hlen := length_savedContainer s (imageJob l w o pad wd ht) (wd * ht)
    exact runCommand_raised he
      (((h.saveBody o pad).2 _ (savePixels_imageJob s l w hpixels)).1 (hfull.trans_eq hlen.symm))

end Sys2Proof.Machine
end

section
/-! The host interface: the register map and the buffer windows, offset by offset (10_state.md R36 to R53, 20_memory.md R71, R72,
R78). -/

namespace Sys2Proof.Machine

open Sys2Proof.Claims

/-! ### Where an access lands (10_state R52, 20_memory R71, R72; log 7) -/

theorem targetOf_base_add (p : Params) (off width : Nat) : targetOf p (p.base + off) width = targetAt off width := by
  rw [targetOf, if_neg (by omega), Nat.add_sub_cancel_left]

theorem targetAt_register {off : Nat} (hoff : off < 0x100000) (halign : off % 4 = 0) :
    targetAt off 4 = .register (regAt off) := by
  rw [targetAt, if_pos hoff, if_pos ⟨rfl, halign⟩]

theorem targetAt_registerAccess {off width : Nat} (hoff : off < 0x100000) (h : ¬(width = 4 ∧ off % 4 = 0)) :
    targetAt off width = .reject .registerAccess := by
  rw [targetAt, if_pos hoff, if_neg h]

theorem targetAt_windowAccess {off width : Nat} (hlow : 0x100000 ≤ off) (hhigh : off < 0x800000)
    (h : ¬((width = 1 ∨ width = 2 ∨ width = 4) ∧ off % width = 0)) : targetAt off width = .reject .windowAccess := by
  have hok : ¬ windowAccessOk off width = true := mt of_decide_eq_true h
  rw [targetAt, if_neg hlow.not_gt, if_pos hhigh, if_neg hok]

theorem windowAccessOk_windowBase_add {b : Buffer} {off width : Nat} (h : WindowAccess b off width) :
    windowAccessOk (windowBase b + off) width = true := by
  obtain ⟨hwidth, halign, -⟩ := h
  have hbase : windowBase b % 4 = 0 := by cases b <;> rfl
  refine decide_eq_true ⟨hwidth, ?_⟩
  obtain rfl | rfl | rfl := hwidth <;> omega

theorem targetAt_window {b : Buffer} {off width : Nat} (h : WindowAccess b off width) :
    targetAt (windowBase b + off) width = .window b off := by
  have hok := windowAccessOk_windowBase_add h
  obtain ⟨-, -, hspan⟩ := h
  cases b
  case inp =>
    have hbase : windowBase .inp = 0x100000 := rfl
    have hsize : windowSpan .inp = 0x100000 := rfl
    have hoff : windowBase .inp + off - 0x100000 = off := by omega
    rw [targetAt, if_neg (by omega), if_pos (by omega), if_pos hok, if_pos (by omega), hoff]
  case out =>
    have hbase : windowBase .out = 0x200000 := rfl
    have hsize : windowSpan .out = 0x200000 := rfl
    have hoff : windowBase .out + off - 0x200000 = off := by omega
    rw [targetAt, if_neg (by omega), if_pos (by omega), if_pos hok, if_neg (by omega), if_pos (by omega), hoff]
  case bmp =>
    have hbase : windowBase .bmp = 0x400000 := rfl
    have hsize : windowSpan .bmp = 0x400000 := rfl
    have hoff : windowBase .bmp + off - 0x400000 = off := by omega
    rw [targetAt, if_neg (by omega), if_pos (by omega), if_pos hok, if_neg (by omega), if_neg (by omega), hoff]

/-! ### Register accesses (10_state R52, R53) -/

/-- The step that serves a write of a register other than CMD. -/
theorem step_of_writesReg {s : State} {off : Nat} {v : Word} {rest : List HostOp} (h : WritesReg s off v rest)
    (hoff : off < 0x100000 := by decide) (halign : off % 4 = 0 := by decide) (hcmd : regAt off ≠ .cmd := by decide) :
    step s = .next (writeReg (regAt off) v { s with pending := rest }) := by
  rw [step_serve h]
  simp only [serve, targetOf_base_add, targetAt_register hoff halign, writeTo, if_neg hcmd]

theorem step_of_readsReg {s : State} {off : Nat} {rest : List HostOp} (h : ReadsReg s off rest) (hoff : off < 0x100000)
    (halign : off % 4 = 0) :
    step s = .next { s with pending := rest, hostData := some (readReg (regAt off) { s with pending := rest }) } := by
  rw [step_serve h]
  simp only [serve, targetOf_base_add, targetAt_register hoff halign]

theorem regAt_hdr (i : Fin 8) : regAt (0x060 + 4 * i.val) = .hdr i := by revert i; decide

theorem regAt_tbl (j : Fin 16) : regAt (0x080 + 4 * j.val) = .tbl j := by revert j; decide

theorem regAt_rt (j : Fin 16) : regAt (0x0C0 + 4 * j.val) = .rt j := by revert j; decide

theorem regAt_reserved {off : Nat} (h : 0x100 ≤ off) : regAt off = .reserved := by
  unfold regAt
  split
  case h_24 => rw [if_neg (by omega), if_neg (by omega), if_neg (by omega)]
  all_goals omega

theorem regAt_readOnly {off : Nat} (h : off ∈ readOnlyOffsets) :
    (off < 0x100000 ∧ off % 4 = 0 ∧ regAt off ≠ .cmd) ∧ ∀ v s, writeReg (regAt off) v s = s := by
  unfold readOnlyOffsets at h
  fin_cases h
  all_goals exact ⟨by decide, fun _ _ => rfl⟩

/-- Settles O48: IN_LEN and IN_POS in the map. -/
theorem streamRegisterWritesClampAndRestart : Obligations.StreamRegisterWritesClampAndRestart := by
  unfold Obligations.StreamRegisterWritesClampAndRestart
  exact fun s v rest => ⟨fun h => step_of_writesReg h, fun h => step_of_writesReg h⟩

/-- Settles O49: each writable register in the map, then the read-only and the reserved offsets. -/
theorem registerWritesFollowTheMap : Obligations.RegisterWritesFollowTheMap := by
  unfold Obligations.RegisterWritesFollowTheMap
  intro s v rest
  refine ⟨fun h => step_of_writesReg h, fun h => step_of_writesReg h, fun h => step_of_writesReg h,
    fun h => step_of_writesReg h, fun h => step_of_writesReg h, fun h => step_of_writesReg h,
    fun h => step_of_writesReg h, fun h => step_of_writesReg h, fun j h => ?_, fun j h => ?_, fun off h hoff => ?_⟩
  · have hreg := regAt_tbl j
    rw [step_of_writesReg h (by omega) (by omega) (by rw [hreg]; exact Reg.noConfusion), hreg]
    rfl
  · have hreg := regAt_rt j
    rw [step_of_writesReg h (by omega) (by omega) (by rw [hreg]; exact Reg.noConfusion), hreg]
    rfl
  · obtain hro | ⟨hlow, hhigh, halign⟩ := hoff
    · obtain ⟨⟨hlt, halign, hcmd⟩, hkeep⟩ := regAt_readOnly hro
      rw [step_of_writesReg h hlt halign hcmd, hkeep]
    · have hreg := regAt_reserved hlow
      rw [step_of_writesReg h hhigh halign (by rw [hreg]; exact Reg.noConfusion), hreg]
      rfl

/-! ### Register reads -/

/-- The step that serves a read at the offset of register r leaves r's word. -/
theorem step_reads {s : State} {off : Nat} {rest : List HostOp} {r : Reg} {v : Word} (hreg : regAt off = r)
    (hv : readReg r { s with pending := rest } = v) (hoff : off < 0x100000 := by decide)
    (halign : off % 4 = 0 := by decide) (h : ReadsReg s off rest) :
    step s = .next { s with pending := rest, hostData := some v } := by
  rw [step_of_readsReg h hoff halign, hreg, hv]

theorem tileWView_eq (s : State) :
    tileWView s = if 1 ≤ s.tileK.toNat ∧ s.tileK.toNat ≤ 16 then BitVec.ofNat 32 (tileW (entriesOf s.tbl s.tileK.toNat))
      else 0#32 := by
  rw [entriesOf_eq]
  rfl

theorem tileHView_eq (s : State) :
    tileHView s = if 1 ≤ s.tileK.toNat ∧ s.tileK.toNat ≤ 16 then BitVec.ofNat 32 (tileH (entriesOf s.tbl s.tileK.toNat))
      else 0#32 := by
  rw [entriesOf_eq]
  rfl

/-- Settles O50: each offset's register, and the word it reads as. -/
theorem registerReadsFollowTheMap : Obligations.RegisterReadsFollowTheMap := by
  unfold Obligations.RegisterReadsFollowTheMap
  intro s rest
  dsimp only
  simp only [BitVec.ofNat_toNat]
  refine ⟨step_reads rfl rfl, step_reads rfl rfl, step_reads rfl rfl, step_reads rfl rfl, step_reads rfl rfl,
    step_reads rfl rfl, step_reads rfl rfl, step_reads rfl rfl, step_reads rfl rfl, step_reads rfl rfl, step_reads rfl rfl,
    step_reads rfl rfl, step_reads rfl rfl, step_reads rfl rfl, step_reads rfl rfl, step_reads rfl rfl,
    step_reads rfl (tileWView_eq _), step_reads rfl (tileHView_eq _), step_reads rfl rfl, step_reads rfl rfl,
    step_reads rfl rfl, step_reads rfl rfl, step_reads rfl rfl, step_reads rfl rfl, fun i => ?_, fun j => ?_, fun j => ?_,
    fun off hlow hhigh halign => ?_⟩
  · exact step_reads (regAt_hdr i) rfl (by omega) (by omega)
  · exact step_reads (regAt_tbl j) rfl (by omega) (by omega)
  · exact step_reads (regAt_rt j) rfl (by omega) (by omega)
  · exact step_reads (regAt_reserved hlow) rfl hhigh halign

/-- Settles O51: a read that is served writes `hostData` alone. -/
theorem hostReadsHaveNoSideEffect : Obligations.HostReadsHaveNoSideEffect := by
  unfold Obligations.HostReadsHaveNoSideEffect
  intro s t addr width rest hp h
  rw [step_serve hp] at h
  unfold serve at h
  dsimp only at h
  split at h <;> cases h
  all_goals rfl

/-! ### Window accesses (20_memory R71, R72) -/

theorem bufSize_eq (p : Params) (b : Buffer) : bufSize p b = bufferSize p b := by cases b <;> rfl

/-- The step that serves a write of a window. -/
theorem step_of_windowWrite {s : State} {b : Buffer} {off width : Nat} {v : Word} {rest : List HostOp}
    (h : WindowAccess b off width) (hp : s.pending = .write (s.params.base + windowBase b + off) width v :: rest) :
    step s = .next (windowWrite { s with pending := rest } b off width v) := by
  rw [step_serve hp]
  simp only [serve, Nat.add_assoc, targetOf_base_add, targetAt_window h]

theorem step_of_windowRead {s : State} {b : Buffer} {off width : Nat} {rest : List HostOp} (h : WindowAccess b off width)
    (hp : s.pending = .read (s.params.base + windowBase b + off) width :: rest) :
    step s = .next { s with pending := rest, hostData := some (windowRead { s with pending := rest } b off width) } := by
  rw [step_serve hp]
  simp only [serve, Nat.add_assoc, targetOf_base_add, targetAt_window h]

/-- What a window write of IN or BMP leaves at each offset: its byte where one fell inside the buffer, else the byte before. -/
theorem readByte_windowWrite (s : State) {b : Buffer} (hb : b ≠ .out) (off width : Nat) (v : Word) (a : Nat) :
    readByte (windowWrite s b off width v) b a =
      if off ≤ a ∧ a < off + width ∧ a < bufferSize s.params b then BitVec.ofNat 8 (v.toNat / 2 ^ (8 * (a - off)))
      else readByte s b a := by
  have hread : readByte (windowWrite s b off width v) b a =
      Memory.byteAt (Memory.writeBytes (s.bufMem b) off (windowBytes s b off width v)) s.powerOns b a := by
    cases b
    case out => exact absurd rfl hb
    all_goals rfl
  have hlen : (windowBytes s b off width v).length = min (bufferSize s.params b - off) width := by
    rw [windowBytes, List.length_take, leBytes_length, bufSize_eq]
  have hpow : (256 : Nat) ^ (a - off) = 2 ^ (8 * (a - off)) := by rw [pow_mul]; norm_num
  rw [hread, byteAt_writeBytes]
  by_cases hin : off ≤ a ∧ a < off + width ∧ a < bufferSize s.params b
  · rw [if_pos hin, dif_pos (by rw [hlen]; omega)]
    simp only [windowBytes, List.getElem_take, leBytes_getElem, hpow]
  · rw [if_neg hin, dif_neg (by rw [hlen]; omega)]
    rfl

/-- Settles O52: the window's write, then what each offset holds. -/
theorem windowWritesStoreLittleEndian : Obligations.WindowWritesStoreLittleEndian := by
  unfold Obligations.WindowWritesStoreLittleEndian
  intro s b off width v rest haccess hp
  refine ⟨_, step_of_windowWrite haccess hp, ?_, fun hb i hi hin => ?_, fun a ha => ?_⟩
  · cases b <;> rfl
  · rw [readByte_windowWrite _ hb, if_pos ⟨by omega, by omega, hin⟩, Nat.add_sub_cancel_left]
  · by_cases hb : b = .out
    · subst hb
      rfl
    · rw [readByte_windowWrite _ hb]
      refine if_neg ?_
      rintro ⟨h1, h2, h3⟩
      change a < bufferSize s.params b at h3
      omega

/-- Settles O53: the bytes inside the buffer as a weighted sum, the others 0. -/
theorem windowReadsAreLittleEndian : Obligations.WindowReadsAreLittleEndian := by
  unfold Obligations.WindowReadsAreLittleEndian
  intro s b off width rest haccess hp
  have hterm : ∀ i, (if off + i < bufSize s.params b then readByte { s with pending := rest } b (off + i) else 0#8).toNat *
      2 ^ (8 * i) = if off + i < bufferSize s.params b then (readByte s b (off + i)).toNat * 2 ^ (8 * i) else 0 := by
    intro i
    rw [bufSize_eq]
    split_ifs
    · cases b <;> rfl
    · simp
  rw [step_of_windowRead haccess hp]
  simp only [windowRead, leValue_map_range, hterm]

/-- Settles O54: the target of such an access is a refusal, for a read and for a write. -/
theorem misalignedHostAccessesHaveNoStep : Obligations.MisalignedHostAccessesHaveNoStep := by
  unfold Obligations.MisalignedHostAccessesHaveNoStep
  intro s off width v rest op hp hop
  have hrefused : ∀ why, targetAt off width = .reject why → step s = .refused why := by
    intro why hwhy
    rw [step_serve hp]
    obtain rfl | rfl := hop <;> simp only [serve, targetOf_base_add, hwhy]
  exact ⟨fun hoff h => hrefused _ (targetAt_registerAccess hoff h),
    fun hlow hhigh h => hrefused _ (targetAt_windowAccess hlow hhigh h)⟩

end Sys2Proof.Machine
end

section
/-! STATUS as a word (10_state.md R25): the number it holds, and each field at its bits. -/

namespace Sys2Proof.Machine

open Sys2Proof.Claims

/-! ### The wider fields -/

theorem ErrCode.toNat_number (e : ErrCode) : e.number.toNat = errorNumber e := by cases e <;> rfl

theorem errorNumber_lt (e : ErrCode) : errorNumber e < 2 ^ 8 := e.toNat_number ▸ e.number.isLt

/-- Below ERR_OP and ERR the word holds nine flags. -/
theorem Status.exists_toNat_word (f : Status) :
    ∃ flags < 2 ^ 9, f.word.toNat = f.errOp.toNat * 2 ^ 24 + errorNumber f.err * 2 ^ 16 + flags := by
  have hflag : ∀ b : Bool, b.toNat ≤ 1 := Bool.toNat_le
  have h8 := hflag f.dropped
  have h7 := hflag f.short
  have h6 := hflag f.nibDrop
  have h5 := hflag f.nibrPend
  have h4 := hflag f.nibwPend
  have h3 := hflag f.endFlag
  have h2 := hflag f.hdrValid
  have h1 := hflag f.t3dsValid
  have h0 := hflag f.fmtValid
  simp only [Status.word, toNat_append_eq_add, BitVec.toNat_ofBool, BitVec.toNat_ofNat, ErrCode.toNat_number]
  refine ⟨f.dropped.toNat * 2 ^ 8 + f.short.toNat * 2 ^ 7 + f.nibDrop.toNat * 2 ^ 6 + f.nibrPend.toNat * 2 ^ 5 +
    f.nibwPend.toNat * 2 ^ 4 + f.endFlag.toNat * 2 ^ 3 + f.hdrValid.toNat * 2 ^ 2 + f.t3dsValid.toNat * 2 +
    f.fmtValid.toNat, ?_, ?_⟩
  · omega
  · omega

theorem Status.bitsOf_word (f : Status) :
    bitsOf f.word 9 7 = 0 ∧ bitsOf f.word 16 8 = errorNumber f.err ∧ bitsOf f.word 24 8 = f.errOp.toNat := by
  obtain ⟨flags, hflags, hword⟩ := f.exists_toNat_word
  have herr := errorNumber_lt f.err
  have hop := f.errOp.isLt
  unfold bitsOf
  rw [hword]
  omega

/-! ### The flags -/

theorem getLsbD_append_flag_zero {n : Nat} (x : BitVec n) (b : Bool) : (x ++ BitVec.ofBool b).getLsbD 0 = b := by
  rw [BitVec.getLsbD_append]
  cases b <;> rfl

theorem getLsbD_append_flag_succ {n : Nat} (x : BitVec n) (b : Bool) (i : Nat) :
    (x ++ BitVec.ofBool b).getLsbD (i + 1) = x.getLsbD i := by
  rw [BitVec.getLsbD_append, if_neg (by omega), Nat.add_sub_cancel]

/-- The flags are bits 8 down to 0, DROPPED first. -/
theorem Status.getLsbD_word (f : Status) :
    f.word.getLsbD 0 = f.fmtValid ∧ f.word.getLsbD 1 = f.t3dsValid ∧ f.word.getLsbD 2 = f.hdrValid ∧
      f.word.getLsbD 3 = f.endFlag ∧ f.word.getLsbD 4 = f.nibwPend ∧ f.word.getLsbD 5 = f.nibrPend ∧
      f.word.getLsbD 6 = f.nibDrop ∧ f.word.getLsbD 7 = f.short ∧ f.word.getLsbD 8 = f.dropped := by
  simp only [Status.word, getLsbD_append_flag_zero, getLsbD_append_flag_succ, and_self]

/-- Settles O11: the flags bit by bit, the wider fields from the number the word holds. -/
theorem statusWordHasTheSpecLayout : Obligations.StatusWordHasTheSpecLayout := by
  unfold Obligations.StatusWordHasTheSpecLayout
  intro f
  obtain ⟨hreserved, herr, hop⟩ := f.bitsOf_word
  exact ⟨f.getLsbD_word, hreserved, herr, extractLsb'_eq_iff.2 hop⟩

end Sys2Proof.Machine
end
